-- ==== Sys2Proof/Word.lean ====
section
/-! DEFINITION. The word and byte types of the node, and the operand types of its commands:
ports, converters, engines, supplies, received frames and delivered requests. -/

namespace Sys2Proof

/-- A register or a 32-bit memory word (R8, "Every register is 32 bits wide"). -/
abbrev Word := BitVec 32

/-- One byte of memory or of a packet. -/
abbrev Byte := BitVec 8

/-- The two Row Link ports of a node (R125). -/
inductive Port where
  | up
  | dn
  deriving DecidableEq, Repr

/-- The port opposite to a port. -/
def Port.opposite : Port → Port
  | .up => .dn
  | .dn => .up

/-- The two converters (R585). -/
inductive Conv where
  | a
  | b
  deriving DecidableEq, Repr

/-- The five engines in the order of ENG_STAT (Table 8-14). -/
inductive Engine where
  | me0
  | me1
  | ve
  | xe
  | pe
  deriving DecidableEq, Repr

/-- The supplies whose brown-out resets the node (Table 3-3). -/
inductive Supply where
  | core
  | mem
  | io
  | ana
  deriving DecidableEq, Repr

/-- The balls that the node itself can drive (Table 17-1). -/
inductive Ball where
  | upTx
  | dnTx
  | hpSio
  | irqN
  | tdo
  | tickOut
  | strobe
  | haltN
  | gpio (n : Nat)
  deriving DecidableEq, Repr

/-- What the node puts on a ball: a level, nothing, the weak keeper's level in a hand-over, or symbols on a lane. -/
inductive Pad where
  | low
  | high
  | released
  | kept (level : Bool)
  | symbols
  deriving DecidableEq, Repr

/-- The three service levels (R39). -/
inductive Level where
  | keep
  | watch
  | run
  deriving DecidableEq, Repr

/-- Where a request reached the node: its host port or the Row Link (R227). -/
inductive Path where
  | host
  | row
  deriving DecidableEq, Repr

/-- The three hand-out groups of the Dispatcher (R363). -/
inductive Group where
  | low
  | high
  | vector
  deriving DecidableEq, Repr

/-- A request as it reaches the opcode's execution: its path, its TAG, whether it is a broadcast (R225)
and its payload (Table 5-2). -/
structure Req where
  path    : Path
  bcast   : Bool
  tag     : Byte
  payload : List Byte
  deriving DecidableEq, Repr

/-- The header fields and the payload of a frame whose TYPE the command names (Table 4-3). LEN is the payload's length. -/
structure RxFrame where
  dst     : BitVec 6
  src     : BitVec 6
  seq     : Byte
  aux     : BitVec 16
  win     : Word
  payload : List Byte
  deriving DecidableEq, Repr

/-- What the surroundings connect to an analogue input: a voltage in nV, which may lie beyond a rail, behind a resistance in Ω. -/
structure Source where
  nv  : Int
  ohm : Nat
  deriving DecidableEq, Repr, Inhabited

/-- The 10-bit codes that reach the two lanes of a port, first to last, a code's first bit in its highest place (R128). -/
structure Lanes where
  lane0 : List (BitVec 10)
  lane1 : List (BitVec 10)
  deriving DecidableEq, Repr

/-- The codes that reach a port, and the port. -/
structure Reception where
  port  : Port
  lanes : Lanes
  deriving DecidableEq, Repr

/-- The lane on which a TRAIN set comes, and the symbol times between the COMs of both lanes (R166). -/
structure TrainLane where
  lane1 : Bool
  skew  : Nat
  deriving DecidableEq, Repr

/-- A transaction on the host port: its command byte, the bytes that the controller sends and the number of bytes that it clocks out
(R200, R202). -/
structure Transaction where
  code    : Byte
  bytes   : List Byte
  clocked : Nat
  deriving DecidableEq, Repr

/-- The energy drawn by the four metered domains in the closing tick, in nJ at the balls (R274). -/
structure Spend where
  core : Nat
  mem  : Nat
  ana  : Nat
  io   : Nat
  deriving DecidableEq, Repr, Inhabited

/-- The levels of the three straps at the rising edge of RESET_N (R96). -/
structure Straps where
  headN : Bool
  mode1 : Bool
  mode0 : Bool
  deriving DecidableEq, Repr

/-- The outcome of BIST of the blocks outside the keeper set (R114): one bit per core, and the units of PWR_BIST that failed. -/
structure Bist where
  fwSram : Bool
  coreOk : BitVec 64
  memDie : Bool
  shSram : Bool
  scion  : Bool
  pe     : Bool
  adcA   : Bool
  adcB   : Bool
  deriving DecidableEq, Repr

end Sys2Proof
end

