-- ==== Sys2Proof/Syntax.lean ====
section
/-! DEFINITION. The commands of the block: one constructor per row of spec/opcode_table.json, in the table's order. -/

namespace Sys2Proof

/-- A command or an event that the node takes (spec/opcode_table.json). Each constructor's docstring gives its row's rule. -/
inductive Instr where
  /-- HP_WRITE_REQUEST (R206): A host-port write transaction delivers one request packet, which is checked, then executed, forwarded or broadcast. -/
  | hpWriteRequest (bytes : List Byte)
  /-- HP_READ_REPLY (R207): A host-port read transaction clocks out the reply at the front of the reply queue, and removes it only if it was read completely. -/
  | hpReadReply (clocked : Nat)
  /-- HP_READ_STATUS (R202): A read-status transaction (command 0x63) returns HP_QSTAT. -/
  | hpReadStatus
  /-- UNKNOWN_COMMAND_BYTE (R205): A transaction whose command byte is not in Table 5-1 is discarded and sets FRAME_ERR. -/
  | unknownCommandByte (x : Transaction)
  /-- PING (R212): Returns the request payload unchanged. -/
  | ping (r : Req)
  /-- IDENT (R212): Returns the node's eight identity and status registers. -/
  | ident (r : Req)
  /-- ENUMERATE (R173): The head restarts enumeration of the row and replies with the row table when enumeration ends. -/
  | enumerate (r : Req)
  /-- REG_RD (R213): Reads one register word. -/
  | regRd (r : Req)
  /-- REG_WR (R215): Writes one register word, acting on each field according to its class. -/
  | regWr (r : Req)
  /-- REG_RD_BLOCK (R214): Reads up to 1,024 register words in ascending address order, each read once. -/
  | regRdBlock (r : Req)
  /-- MEM_RD (R213): Reads bytes from one memory range. -/
  | memRd (r : Req)
  /-- MEM_WR (R742): Writes bytes into one memory range, subject to the memory denials judged at step 10. -/
  | memWr (r : Req)
  /-- STAGE_WR (R216): Validates all entries, then applies them in order as masked writes into the staging bank. -/
  | stageWr (r : Req)
  /-- CHECK (R241): Evaluates every consistency check against the prospective values and returns the FAIL mask. -/
  | check (r : Req)
  /-- COMMIT (R246): Checks the staged set and freezes it as the pending set, which becomes live at the next commit instant. -/
  | commit (r : Req)
  /-- COMMIT_AT (R247): Checks the staged set and freezes it as the pending set, which becomes live at the edge carrying the named tick. -/
  | commitAt (r : Req)
  /-- DISCARD (R257): Empties the staging bank and drops any pending set that is not yet live. -/
  | discard (r : Req)
  /-- STORE (R264): Snapshots every staged-class register and starts writing it to the older settings copy in MRAM. -/
  | store (r : Req)
  /-- STORE_COMPLETE (R266): The MRAM write and verify of a STORE ends; the node replies OK with the SEQ written, or NVM_FAIL. -/
  | storeComplete (verified : Bool)
  /-- RECALL (R269): Loads the newest valid settings copy into the staging bank. -/
  | recall (r : Req)
  /-- LOAD_IMAGE (R345): Checks a schedule image in order and, if it passes, loads it as the active image. -/
  | loadImage (r : Req)
  /-- START (R75): Begins the schedule at the named tick edge, or at the next edge when the parameter is 0. -/
  | start (r : Req)
  /-- STOP (R76): Stops the schedule; no further slot entry starts. -/
  | stop (r : Req)
  /-- SELECT_GRADE (R292): Pins a grade, or releases the pin, from the next edge. -/
  | selectGrade (r : Req)
  /-- SET_LEVEL (R119): Names a target service level and starts powering up the blocks it needs. -/
  | setLevel (r : Req)
  /-- ADC_CAL (R649): Checks a calibration step request and starts taking its 64 samples. -/
  | adcCal (r : Req)
  /-- ADC_CAL_STEP_COMPLETE (R650): The samples of a calibration step are in; the step is judged and either held, staged or rejected. -/
  | adcCalStepComplete (c : Conv) (samples : List Source) (refLost : Bool)
  /-- ADC_SNAPSHOT (R622): Returns both ADC data registers and entries of the closed sample page. -/
  | adcSnapshot (r : Req)
  /-- HALT_RELEASE (R640): Clears the untripped latches in MASK, FHALT and every echo hold, and returns STILL. -/
  | haltRelease (r : Req)
  /-- TRACE_RD (R396): Returns records from the trace ring. -/
  | traceRd (r : Req)
  /-- FAULT_RD (R691): Returns held fault records at or after INDEX. -/
  | faultRd (r : Req)
  /-- FAULT_CLR (R692): Discards held fault records up to and including INDEX. -/
  | faultClr (r : Req)
  /-- RESULT_RD (R537): Returns bytes of the newest completed result page with its TICK and PAGE_STAT. -/
  | resultRd (r : Req)
  /-- RESET_NODE (R104): Sends an OK reply and schedules a node reset. -/
  | resetNode (r : Req)
  /-- RESET_NODE_DELAY_EXPIRY (R104): 100 µs after the reply's last byte the node resets. -/
  | resetNodeDelayExpiry
  /-- FW_UPDATE (R218): Accepts an in-order firmware chunk and, after the last chunk, checks the image and writes it to a slot or starts it. -/
  | fwUpdate (r : Req)
  /-- RTO_EXPIRY (R226): The head gets no reply to a forwarded request within RTO and answers TIMEOUT; a broadcast reply is closed with the missing addresses. -/
  | rtoExpiry (dest : BitVec 6) (tag : Byte)
  /-- REGISTER_WRITE (R14): A write to a register with no row of its own: direct fields act at once, staged fields go to the staging bank, and W1C bits clear. -/
  | registerWrite (addr value : Word)
  /-- TICK_EN_SET (R50): Setting EN in TICK_CTRL on the head starts tick generation. -/
  | tickEnSet
  /-- TICK_EN_CLEAR (R51): Clearing EN on the head ends tick generation after one more edge. -/
  | tickEnClear
  /-- CLR (R283): Writing CLR in EN_CTRL requests that EN_BAL be set to 0 at the next settling edge. -/
  | clr
  /-- SW_REGULAR_TRIGGER (R599): Writing REG_A or REG_B in ADC_SWTRIG triggers that converter's regular sequence. -/
  | swRegularTrigger (c : Conv)
  /-- SW_INJECTED_TRIGGER (R602): Writing INJ_A or INJ_B in ADC_SWTRIG triggers that converter's injected sequence. -/
  | swInjectedTrigger (c : Conv)
  /-- GO (R576): Writing GO in WM_PROG starts programming the standing model area from shared SRAM. -/
  | go
  /-- WM_PROG_COMPLETE (R577): Programming of the standing model area ends, verified, or with WM_BAD set. -/
  | wmProgComplete (verified : Bool)
  /-- CNT_CLR (R682): Writing CNT_CLR clears every saturating counter of the node at one instant. -/
  | cntClr
  /-- ADC_DATA_READ (R610): A read of ADC_A_DATA or ADC_B_DATA returns the word and then clears VALID. -/
  | adcDataRead (c : Conv)
  /-- QMAX_READ (R12): A read of a DSP_QMAX register returns the highest queue level and clears it. -/
  | qmaxRead (i : Fin 4)
  /-- FLT_ROW_READ (R12): A read of FLT_ROW returns the source mask and clears it. -/
  | fltRowRead
  /-- RESET_N_ASSERT (R717): A long enough low pulse on RESET_N resets the node. -/
  | resetNAssert (lowNs : Nat)
  /-- RESET_N_RISE (R96): At the rising edge of RESET_N the straps are latched and the boot ROM starts. -/
  | resetNRise (straps : Straps)
  /-- BROWN_OUT (R98): A supply stays below its trip level for 2 µs and the node resets; a VDD_IO brown-out also clears the strap latch. -/
  | brownOut (supply : Supply)
  /-- BROWN_OUT_RELEASE (R99): Every supply has been at or above its release level for 1 ms, and the node boots. -/
  | brownOutRelease
  /-- PIX_BROWN (R100): A VDD_PIX brown-out switches the imager off and sets PIX_BROWN. -/
  | pixBrown
  /-- VDD_PIX_RESTORE (R100): VDD_PIX has been at or above 2.70 V for 1 ms, and the imager restarts. -/
  | vddPixRestore
  /-- WDT (R103): The Management Sequencer watchdog expires and resets the node. -/
  | wdt
  /-- BOOT_WDT (R110): Firmware has not set KEEPER_UP within 100 ms; the node resets and starts the other slot. -/
  | bootWdt
  /-- REFLEX_ARMED (R107): The boot ROM arms CMP0-CMP3 from the newest valid settings copy and ends the boot-hold. -/
  | reflexArmed (mramReads : Bool)
  /-- FIRMWARE_SLOT_START (R108): The boot ROM checks the firmware slots and starts the valid one with the higher sequence number. -/
  | firmwareSlotStart
  /-- KEEPER_UP (R112): Firmware completes keeper-set BIST and the settings recall, sets KEEPER_UP and enters KEEP. -/
  | keeperUp (refReady rowLinkOk : Bool)
  /-- BIST_COMPLETE (R114): BIST of the remaining blocks completes and fills SYS_CAPS, SYS_CORE_LO, SYS_CORE_HI and PWR_BIST. -/
  | bistComplete (b : Bist)
  /-- LEVEL_POWER_UP_COMPLETE (R119): Power-up for a requested level completes; the level changes now if no tick runs. -/
  | levelPowerUpComplete
  /-- TICK_EDGE (R73): A tick edge fires and the node carries out the edge sequence of Table 2-4. -/
  | tickEdge (sp : Spend)
  /-- TICK_SET_LAUNCH (R184): The head launches a TICK ordered set 8 µs before the edge it announces. -/
  | tickSetLaunch
  /-- TICK_IN_EDGE (R82): A TICK_IN rising edge on the head is accepted and announces an edge, or is ignored as early. -/
  | tickInEdge
  /-- TICK_LOST (R84): No TICK_IN edge has been accepted within 1.5 × TICK_MEAS; the head starts flywheeling. -/
  | tickLost
  /-- END_OF_TICKING (R51): PERIOD after the last edge following EN clear, the head aborts work, stops the schedule and clears RUNNING. -/
  | endOfTicking
  /-- TICK_EDGES_STOP (R747): Tick edges stop; the open tick's samples and meter counts are discarded and thermal intervals begin. -/
  | tickEdgesStop
  /-- FREE_RUN_PASS_END (R67): Every entry of a FREE_RUN pass has completed; this acts as a tick edge. -/
  | freeRunPassEnd (sp : Spend)
  /-- SLOT_START (R59): An entry's START offset arrives and its engine starts the command list if it is free. -/
  | slotStart (entry : Nat)
  /-- RESERVATION_END (R61): An entry's work is still running at START + RESERVE, which sets SLOT_LATE. -/
  | reservationEnd (entry : Nat)
  /-- GUARD_START (R62): At the guard start, entries not yet started are skipped and SLOT_SKIP is set. -/
  | guardStart
  /-- ENTRY_COMPLETE (R320): A slot entry completes, and a waiting entry on the same engine may start late. -/
  | entryComplete (e : Engine)
  /-- RESULT_PAGE_COPY_COMPLETE (R531): The head's copy of the working page completes; the page becomes newest and RESULT is set. -/
  | resultPageCopyComplete
  /-- TICK_OUT_PULSE_END (R52): 1 µs after the edge, TICK_OUT returns low. -/
  | tickOutPulseEnd
  /-- THERMAL_SAMPLE (R295): Every 250 µs the node samples every present thermal sensor. -/
  | thermalSample (temps : List Int)
  /-- THERMAL_INTERVAL_END (R307): A 10,000 µs thermal interval ends without tick edges and acts as steps 2 to 4 of R308. -/
  | thermalIntervalEnd
  /-- THERM_HOLD_SAMPLE (R305): While THERM_HOLD is set, the node samples the sensors and clears the hold once the die has cooled. -/
  | thermHoldSample (temps : List Int)
  /-- WATCH_TIMER_EDGE (R569): The watch timer starts a watch frame every WPER ms while no tick edges occur. -/
  | watchTimerEdge
  /-- NOP (R330): Issues with no effect. -/
  | nop (e : Engine)
  /-- SYNC (R333): Blocks the list until the fence counter reaches VALUE. -/
  | sync (e : Engine)
  /-- SYNC_RELEASE (R333): A blocked SYNC's counter reaches VALUE, and the list continues. -/
  | syncRelease (e : Engine)
  /-- SYNC_TMO (R334): A SYNC has blocked for TMO µs; the rest of the list is dropped and the tick is marked incomplete. -/
  | syncTmo (e : Engine)
  /-- SIGNAL (R332): Adds AMOUNT to a fence counter once earlier work items have completed. -/
  | signal (e : Engine)
  /-- WAIT_SLOT (R335): Blocks the list until a named entry has started or completed. -/
  | waitSlot (e : Engine)
  /-- WAIT_SLOT_RELEASE (R335): The awaited entry starts or completes, and the blocked list continues. -/
  | waitSlotRelease (e : Engine)
  /-- SHAPE_SET (R337): Writes a stamped shape word. -/
  | shapeSet (e : Engine)
  /-- MATMUL (R352): Reads its shape words and enqueues a tile list of matrix work items. -/
  | matmul (e : Engine)
  /-- CONV (R326): Enqueues a tile list of convolution work items. -/
  | conv (e : Engine)
  /-- ATTEND (R492): Enqueues the first part of each attention block. -/
  | attend (e : Engine)
  /-- ROUTE (R443): Scores router logits, picks experts, and writes tags, gates and counts. -/
  | route
  /-- QUANT (R430): Quantises or dequantises a tensor, and may feed a max-abs collector. -/
  | quant
  /-- ROTATE (R434): Applies the 64-point Hadamard rotation. -/
  | rotate
  /-- VECOP (R328): Performs a vector operation selected by OP. -/
  | vecop
  /-- SCATTER (R463): Sends direct-mode token pairs and OUT_END controls to the destinations. -/
  | scatter
  /-- SORT (R467): Fills the sorted send buffer by destination, expert and token index. -/
  | sort
  /-- EXCHANGE (R469): Sends sorted segments in rotation (DIR 0), or returns results (DIR 1). -/
  | exchange
  /-- COMBINE (R482): Adds residuals and weighted results in a fixed order and writes the status bytes. -/
  | combine
  /-- PIXEL (R558): Runs the Pixel Engine pipeline on its source frame. -/
  | pixel
  /-- HELD_ENQUEUE (R360): A held descriptor is enqueued in the first fabric cycle that a queue entry is free. -/
  | heldEnqueue (e : Engine)
  /-- TILE_HAND_OUT (R364): The Dispatcher hands the next eligible tile to a unit's empty active or prefetch slot. -/
  | tileHandOut (g : Group)
  /-- TILE_COMPLETE (R371): A work item completes, updates its counts and flags, and its prefetch tile becomes active. -/
  | tileComplete (unit : Nat)
  /-- STALL (R372): A unit's operands do not arrive for 256 core cycles, and a STALL record is written. -/
  | stall (unit waitUs : Nat)
  /-- SM_MOVE_COMPLETE (R520): A scene-memory move finishes, and commands waiting for it may issue. -/
  | smMoveComplete
  /-- TRAIN (R165): A TRAIN ordered set is received and counts towards link-up. -/
  | train (p : Port) (lane : TrainLane) (addr : BitVec 6) (product : Byte)
  /-- TICK_SET (R188): A member receives a TICK ordered set, repeats it, and schedules its edge. -/
  | tickSet (num : Word) (corr : Byte)
  /-- HALT_SET (R638): A HALT ordered set is received, repeated if new, and sets or clears the echo hold. -/
  | haltSet (p : Port) (src : BitVec 6) (release : Bool) (mask : BitVec 4) (hseq : Byte)
  /-- ACK (R152): An ACK frees the acknowledged frames from the replay buffer. -/
  | ack (p : Port) (seq : Byte)
  /-- NAK (R154): A NAK makes the transmitter resend the named frame and every later one. -/
  | nak (p : Port) (seq : Byte) (reason : Byte)
  /-- SEQSYNC (R156): The receiver adopts the SEQ named by SEQSYNC as expected. -/
  | seqsync (p : Port) (next count : Byte)
  /-- CREDIT (R163): A CREDIT ordered set updates the transmitter's released-unit count. -/
  | credit (p : Port) (class1 : Bool) (released : BitVec 16)
  /-- PROBE (R172): The upstream node answers a PROBE with an ECHO after 64.0 ns. -/
  | probe (p : Port) (index : Byte)
  /-- ECHO (R172): A member measures the round trip of an ECHO for its link delay. -/
  | echo (index : Byte) (roundTrip : Nat)
  /-- SKP (R138): A SKP set is consumed for clock compensation. -/
  | skp (p : Port)
  /-- UNKNOWN_ORDERED_SET (R134): An ordered set with an unknown TYPE is ignored and counted. -/
  | unknownOrderedSet (p : Port) (type : Byte)
  /-- ORDERED_SET_DISCARD (R133): An ordered set that fails on both lanes is discarded and counted. -/
  | orderedSetDiscard (x : Reception)
  /-- PKT (R223): A PKT frame carries a request to execute or a reply to queue, and is routed by DST. -/
  | pkt (p : Port) (f : RxFrame)
  /-- TOK_A (R196): A token-payload half arrives and is held keyed by (SRC, PAIR). -/
  | tokA (p : Port) (f : RxFrame)
  /-- TOK_B (R196): A tags-and-scales half arrives, and a complete pair goes to the Exchange Engine. -/
  | tokB (p : Port) (f : RxFrame)
  /-- PAIR_DROP (R197): At WIN with only one half present, that half is discarded and its tokens are LOST. -/
  | pairDrop (src : BitVec 6) (pair : BitVec 16)
  /-- INBOUND_WINDOW_CLOSE (R462): The inbound window of a SCATTER or EXCHANGE closes, marking missing traffic and signalling FC. -/
  | inboundWindowClose
  /-- ENUM_OFFER (R175): A member takes the offered address, replies, and offers the next address downstream. -/
  | enumOffer (p : Port) (f : RxFrame)
  /-- ENUM_REPLY (R178): The head raises ROW_LEN on an enumeration reply. -/
  | enumReply (p : Port) (f : RxFrame)
  /-- END_REPLY (R178): An END reply ends enumeration at the head. -/
  | endReply (p : Port) (f : RxFrame)
  /-- OVERFLOW_REPLY (R178): An OVERFLOW reply ends enumeration at the head. -/
  | overflowReply (p : Port) (f : RxFrame)
  /-- EVENT (R695): The head receives an EVENT frame, logs a row record and acts on its code. -/
  | event (p : Port) (f : RxFrame)
  /-- BAD_FRAME (R153): A bad or out-of-sequence frame is discarded and NAKed. -/
  | badFrame (p : Port) (l : Lanes)
  /-- EDB_FRAME (R143): A frame ending in EDB is discarded without a NAK. -/
  | edbFrame (x : Reception)
  /-- STORED_FRAME_FORWARD (R149): A stored frame is forwarded whole once its outgoing port is free and holds credit. -/
  | storedFrameForward (p : Port)
  /-- ACK_TIMEOUT (R154): A frame not covered by an ACK or NAK within 4 µs of its EOF is resent. -/
  | ackTimeout (p : Port)
  /-- WIN_EXPIRY (R155): A token frame that reaches its WIN unacknowledged is abandoned, and a SEQSYNC is sent. -/
  | winExpiry (p : Port)
  /-- LINK_DOWN (R168): A port loses valid symbols or sees too many errors, flushes its buffers and returns to TRAIN. -/
  | linkDown (p : Port)
  /-- DN_WAIT_EXPIRY (R176): The DN link has not come up within DN_WAIT, so an END reply is sent, or the head ends enumeration. -/
  | dnWaitExpiry
  /-- ENUM_END_TIMEOUT (R178): 50 ms or 300 ms after the last reply, enumeration ends and ROW_UP is set. -/
  | enumEndTimeout
  /-- CREDIT_REFRESH (R162): A receiver sends a CREDIT set at least every 10 µs per class. -/
  | creditRefresh (p : Port)
  /-- SKP_INTERVAL (R137): A transmitter sends a SKP set at least every 1,024 symbol times. -/
  | skpInterval (p : Port)
  /-- CMP_RAW_CHANGE (R629): A comparator's raw output changes state on its AIN input. -/
  | cmpRawChange (n : Fin 4) (src : Source)
  /-- CMP_FILTER_EXPIRY (R630): A raw state held for FILT µs changes the filtered state; a change to tripped is a trip. -/
  | cmpFilterExpiry (n : Fin 4)
  /-- AUTO_RELEASE (R642): A latch is cleared after the filtered state has been untripped for HOLD_MS. -/
  | autoRelease (n : Fin 4)
  /-- ADC_TIMER_TRIGGER (R599): The REG_INT timer triggers a regular sequence. -/
  | adcTimerTrigger (c : Conv)
  /-- CONVERSION_DONE (R609): A conversion result reaches the data register, and the sequence continues with its next entry. -/
  | conversionDone (c : Conv) (src : Source)
  /-- MOVER_CLOSE_COMPLETE (R619): The page close ends and held results are appended. -/
  | moverCloseComplete
  /-- REF_READY (R590): The reference has settled long enough, and REF_READY becomes 1. -/
  | refReady
  /-- REF_LOSS (R592): The buffer output leaves its window for 1 µs, so REF_READY falls and REF_LOSS is set. -/
  | refLoss
  /-- ARMING_TIME (R550): At the arming time the imager decides whether the tick's frame is taken. -/
  | armingTime
  /-- STROBE_ASSERT (R551): STROBE becomes active LEAD before exposure. -/
  | strobeAssert
  /-- EXPOSURE_START (R551): Exposure of all pixels begins at EXPO_OFFSET. -/
  | exposureStart
  /-- EXPOSURE_END (R551): Exposure ends after EXPO_TIME, and readout follows. -/
  | exposureEnd
  /-- STROBE_RELEASE (R551): STROBE becomes inactive LAG after the exposure ends. -/
  | strobeRelease
  /-- IMAGER_ROW (R546): A row of the frame arrives through the graft ports into the Pixel Engine. -/
  | imagerRow (row : Nat) (light : List Nat) (corrupt : BitVec 16)
  /-- PIXEL_COMPLETE (R562): The last pyramid level and the statistics record are written, and the PIXEL command completes. -/
  | pixelComplete
  /-- IMG_READY (R556): The imager becomes ready after it is switched on. -/
  | imgReady
  /-- GPIO_EDGE (R665): A selected edge on a GPIO ball sets EDGEn. -/
  | gpioEdge (n : Fin 8) (drive : Option Bool)
  /-- HAND_OVER_END (R254): 40 ns after the commit instant the new function of a switched ball is enabled. -/
  | handOverEnd
  /-- FAULT_RECORD (R687): The node writes a fault record and takes the actions of Table 18-3. -/
  | faultRecord
  /-- BLACK_BOX_COPY (R701): A record copy is written to black-box slot NEXT and read back. -/
  | blackBoxCopy (readBack : Bool)
  /-- TRACE_SYNC_PULSE_END (R660): 100 ns after a trace record is written at a TR_WPTR offset that is a multiple of 4,096, a GPIO running TRACE_SYNC returns low. -/
  | traceSyncPulseEnd (n : Fin 8)
  deriving DecidableEq, Repr

end Sys2Proof
end

