-- ==== Sys2Proof/Decode.lean ====
section
/-! DEFINITION. The command that a word spells. No row of spec/opcode_table.json gives its command bits: the commands are
packets, frames, ordered sets and events, whose operands the command carries. -/

namespace Sys2Proof

/-- The command that a word of nbits bits spells by the opcode table's bits: none, since no row has any. -/
def decodeTableWord (_nbits _w : Nat) : Option Instr := none

end Sys2Proof
end

