-- ==== Sys2Proof/Config.lean ====
section
/-! DEFINITION. The values that the spec leaves open. Every constant here has no body, so nothing can be proved of what it
answers: a statement about the model holds for every value. Each is named in a log entry. -/

namespace Sys2Proof.Config

/-- A fresh yes or no: the outcome of a firmware write (R219), a RESET_N pulse between 1 µs and 2 µs (R717). Log entry 9. -/
opaque freeBool : Nat → Bool

/-- A fresh byte: what a failed black-box write leaves in its slot (R703). Log entry 9. -/
opaque freeByte : Nat → Byte

/-- A fresh count: operand bytes that a work item read (DSP_RD_BYTES). Log entry 9. -/
opaque freeCount : Nat → Nat

/-- Which of the two FP32 values around the exact exponential the Vector Engine's exp answers (R446): true for the upper one. Log
entry 10. -/
opaque expUpper : Word → Bool

/-- Token index and rank of a dropped token that never arrived: by its source, its expert and its place in the source's list (R472). Log
entry 110. -/
opaque unseenToken : Nat → Nat → Nat → Nat

/-- Result of the VECOP functions whose arithmetic no rule states: for an OP code, a row of X and of Z as FP32 words, EPS
and a column, an FP32 word. Log entry 11. -/
opaque vecValue : Nat → List Word → List Word → Word → Nat → Word

/-- Energy that the meters count in one cycle of the I/O clock, per domain in nJ (R274 to R278). Log entry 12. -/
opaque drawn : Nat → Spend

/-- Whether another node or the surroundings hold the HALT_N net low at an instant (Table 16-5, NET). Log entry 13. -/
opaque netHeld : Nat → Bool

/-- What a unit reads at an instant from an address outside the ranges of Table 0-4 (R16). Log entry 92. -/
opaque noByte : Nat → Nat → Byte

/-- VREF_EXT of the board in nV, taken within its range (R589). Log entry 94. -/
opaque vrefExt : Nat

/-- Error of the internal reference at an instant in nV, taken within Table 19-10. Log entry 94. -/
opaque vrefError : Nat → Int

/-- VDD_ANA at an instant in nV, taken within its range (Table 3-1). Log entry 94. -/
opaque vddAna : Nat → Nat

/-- Steps of the test DAC's error from code to code in nV, taken within Table 19-10. Log entry 94. -/
opaque tdacError : Nat → Int

/-- Output of the test DAC at an instant at which no rule defines it, in nV (R647). Log entry 94. -/
opaque tdacLoose : Nat → Nat

/-- Output resistance of the test DAC in Ω, taken within Table 19-10. Log entry 94. -/
opaque tdacOhm : Nat

/-- Resistance of the test switch in Ω, taken within Table 19-10 (R648). Log entry 94. -/
opaque switchOhm : Nat

/-- Error of a comparator's threshold at an instant in nV, taken within Table 19-10 (R628). Log entry 94. -/
opaque thrError : Nat → Nat → Int

/-- Error of a comparator's hysteresis at an instant in nV, taken within Table 19-10 (R629). Log entry 94. -/
opaque hystError : Nat → Nat → Int

/-- Offset error of converter 0 or 1 in nV, taken within Table 19-8. Log entry 94. -/
opaque adcOffset : Nat → Int

/-- Gain error of converter 0 or 1 in millionths, taken within Table 19-8. Log entry 94. -/
opaque adcGain : Nat → Int

/-- Steps of a converter's transition levels from code to code in nV, taken within the DNL and INL of Table 19-8. Log entry 94. -/
opaque adcNonlinear : Nat → Nat → Int

/-- What moves the offset of both converters at an instant, in nV, taken within Table 19-8 after calibration. Log entry 94. -/
opaque adcDrift : Nat → Int

/-- What moves the gain of both converters at an instant, in millionths, taken within Table 19-8 after calibration. Log entry 94. -/
opaque adcGainDrift : Nat → Int

/-- What moves ADC B against ADC A at an instant, in nV. Log entry 94. -/
opaque adcApart : Nat → Int

/-- Error of a monitor channel at an instant, taken within Table 19-8. Log entry 94. -/
opaque monitorError : Nat → Nat → Int

/-- Code of a conversion that no figure covers, by instant and converter: one that samples without a settled reference (R593), from a
source above Table 19-9 (R722), or from a ball that injects current (R723). Log entry 94. -/
opaque looseCode : Nat → Nat → Nat

/-- What the surroundings connect at an instant to one of AIN4 to AIN15. Log entry 95. -/
opaque ainSource : Nat → Nat → Source

/-- Rising and falling threshold of a digital AIN in nV, taken within Table 19-3. Log entry 94. -/
opaque ainUp : Nat → Nat
opaque ainDown : Nat → Nat

/-- Level at which the board's pull resistor holds STROBE while the node does not drive it (R656). Log entry 116. -/
opaque strobePull : Bool

/-- Level at an instant of a ball that nothing holds: GPIO 0 to 7, and what the input buffer of AIN 8 to 23 takes while it is off (R664,
R667). Log entry 95. -/
opaque looseLevel : Nat → Nat → Bool

/-- Whether a crystal drives REFCLK on the node's board, so that RESET_N has to be low for 3 ms (R95). Log entry 30. -/
opaque crystal : Bool

/-- Offset of the length word in the header of a firmware image (R108). Log entry 28. -/
opaque fwLengthAt : Nat

/-- Offset of the sequence number in the header of a firmware image (R108). Log entry 28. -/
opaque fwSeqAt : Nat

/-- Offset of the CRC-32 in the header of a firmware image (R108). Log entry 28. -/
opaque fwCrcAt : Nat

/-- Offset of the first byte that the length and the CRC-32 of a firmware image cover (R108). Log entry 28. -/
opaque fwBodyAt : Nat

end Sys2Proof.Config
end

