-- ==== Sys2Proof/Machine/State.lean ====
section
/-! DEFINITION. The state of one node: its registers, its memory, the state of every unit that the spec names, and the
queue of waiting commands. Plain data throughout; the reset value of every part stands beside it. -/

namespace Sys2Proof.Machine

/-- Why a step can stop with a fault: there is no reason. The spec answers every error of a command with a status, a flag or a record,
and an engine that leaves the ranges of Table 0-4 goes on (R16; log entry 92). -/
inductive Fault where
  deriving DecidableEq, Repr

/-- Why a command has no meaning. -/
inductive Refusal where
  /-- Raised by an arm of exec that has no meaning yet. Safe: nothing is claimed of it. -/
  | notModelled (mnemonic : String)
  deriving DecidableEq, Repr

/-- The fuses set at package test (R736, Table 0-7, Table 4-11). -/
structure Fuse where
  isV64  : Bool
  serial : BitVec 64
  deriving DecidableEq, Repr

/-- How far boot has come (R106 to R112). -/
inductive Phase where
  /-- A reset is in force. -/
  | inReset
  /-- The boot ROM runs and the boot-hold drives HALT_N (R101). -/
  | rom
  /-- The comparators are armed (R107). -/
  | armed
  /-- Firmware was started and has not yet set KEEPER_UP (R110). -/
  | firmware
  /-- The keeper set is up (R112). -/
  | keeper
  /-- ROM-only service (R111). -/
  | romOnly
  /-- Host boot: waiting for a firmware image (R106). -/
  | hostBoot
  /-- JTAG hold or factory mode: no packets are answered (R106). -/
  | jtagHold
  deriving DecidableEq, Repr

/-- A firmware transfer in progress (R218). -/
structure FwXfer where
  total : Nat
  data  : List Byte
  deriving DecidableEq, Repr

/-- Power, reset and boot (chapter 3). -/
structure Pwr where
  phase       : Phase
  /-- End of the latest reset, in ns. -/
  bootAt      : Nat
  /-- The level at RESET_N. -/
  resetLow    : Bool
  /-- The strap latch holds a value (R96, R97). -/
  strapsKept  : Bool
  straps      : Straps
  strapPins   : Straps
  /-- Supplies now in brown-out (R99). -/
  brown       : List Supply
  vddPixLow   : Bool
  /-- The MRAM read path passed BIST (Table 3-10). -/
  mramOk      : Bool
  rowLinkOk   : Bool
  /-- Slots that failed to come up since the last reset other than BOOT_WDT: A, B (R110). -/
  triedA      : Bool
  triedB      : Bool
  slotB       : Bool
  level       : Level
  /-- The target of a pending level change (R119). -/
  pend        : Option Level
  /-- Its power-up has completed and the change waits for an edge. -/
  pendReady   : Bool
  /-- Firmware has completed BIST (R43). -/
  bistDone    : Bool
  /-- BIST of this boot has recorded its outcome (R114). -/
  bistRan     : Bool
  coreOk      : BitVec 64
  /-- Firmware SRAM has not failed BIST since the latest reset (Table 3-10). -/
  fwSramOk    : Bool
  shSramOk    : Bool
  memDieOk    : Bool
  imagerOk    : Bool
  peOk        : Bool
  adcAOk      : Bool
  adcBOk      : Bool
  /-- RESET_NODE was accepted and its 100 µs run (R104). -/
  resetAsked  : Bool
  xfer        : Option FwXfer
  /-- Firmware SRAM holds an image started by host boot (R219). -/
  hostImage   : Bool
  deriving DecidableEq, Repr

/-- Where the end of ticking stands after EN was cleared (R51). -/
inductive Ending where
  | none
  /-- One more edge is due. -/
  | oneMore
  /-- The last edge has occurred. -/
  | lastTick
  /-- The last edge has occurred, and after EN rose and fell again one more edge is due. -/
  | lastAndMore
  deriving DecidableEq, Repr

/-- What became of a slot table entry in this tick (R59 to R62). -/
inductive Entry where
  | notDue
  /-- Its START arrived with the engine busy (R60). -/
  | waiting
  | started
  | done
  | skipped
  deriving DecidableEq, Repr

/-- Ticks and slots (chapter 2). -/
structure Tick where
  num        : Word
  /-- Instant of the latest edge, in ns (R748). -/
  edgeAt     : Option Nat
  /-- Edges occur: an edge opened the present tick and they have not stopped (R747). -/
  edges      : Bool
  /-- The node was in WATCH or RUN throughout the present tick (R280). -/
  metered    : Bool
  running    : Bool
  ending     : Ending
  /-- The number that the next edge will carry, once announced (R70, R188). -/
  announced  : Option Word
  flywheel   : Bool
  flyCount   : Nat
  held       : Bool
  /-- TICK_IN edges accepted since EN rose, at most 2 (R83). -/
  accepted   : Nat
  /-- Acceptance instant of the latest accepted TICK_IN edge, in ns (R82). -/
  acceptAt   : Nat
  /-- Launch instant of the latest flywheeled TICK set, in ns (R82). -/
  flyAt      : Nat
  /-- The level at TICK_OUT. -/
  tickOut    : Bool
  sched      : Bool
  /-- START is armed: the number it named, 0 for the next edge (R75). -/
  startAt    : Option Word
  /-- STOP has executed and work still runs (R76). -/
  stopping   : Bool
  entries    : List Entry
  started    : Nat
  last       : Nat
  guard      : Bool
  incomplete : Bool
  lost       : Bool
  untrusted  : Bool
  /-- EXACT was 1 at the edge that opened the tick (R311). -/
  exact      : Bool
  /-- The schedule ran through the whole tick so far (R517). -/
  wholeTick  : Bool
  /-- A FREE_RUN pass is in progress (R66). -/
  pass       : Bool
  /-- Instant at which that pass began, in ns (R284). -/
  passAt     : Nat
  deriving DecidableEq, Repr

/-- A set that waits to become live (R245). `at` names the edge of COMMIT_AT. -/
structure PendSet where
  regs  : List (Nat × Word)
  tick  : Word
  byAt  : Bool
  deriving DecidableEq, Repr

/-- A running STORE (R264, R265): the snapshot, its target copy and its sequence number, and the request it answers. -/
structure StoreJob where
  req     : Req
  toB     : Bool
  seq     : Word
  entries : List (Nat × Word)
  deriving DecidableEq, Repr

/-- Staging (chapter 6). -/
structure Stg where
  bank  : List (Nat × Word)
  pend  : Option PendSet
  job   : Option StoreJob
  deriving DecidableEq, Repr

/-- One entry of a tag window (R227): the request's TAG and, once it has completed, its reply. -/
structure TagEntry where
  tag   : Byte
  reply : Option (List Byte)
  deriving DecidableEq, Repr

/-- A request the head has outstanding (R231). -/
structure OutReq where
  dest   : BitVec 6
  tag    : Byte
  opcode : Byte
  /-- Status bytes that have arrived for a broadcast, by address (R225). -/
  got    : List (Nat × Byte)
  /-- Row length at acceptance of a broadcast. -/
  rowLen : Nat
  /-- The reply is queued, and only its reading is missing. -/
  queued : Bool
  /-- Largest reply that the request reserved in the queue (R231). -/
  room   : Nat
  deriving DecidableEq, Repr

/-- A queued reply and the request it answers. -/
structure QReply where
  bytes : List Byte
  dest  : BitVec 6
  tag   : Byte
  /-- It answers an outstanding request (BAD_CRC, BUSY and NO_ROUTE replies do not). -/
  owns  : Bool
  deriving DecidableEq, Repr

/-- The host port (chapter 5). -/
structure Hp where
  queue   : List QReply
  out     : List OutReq
  winHost : List TagEntry
  winRow  : List TagEntry
  /-- Requests that have arrived while an ADC_CAL waits for its converter, that ADC_CAL first: opcode and request (R32). -/
  parked  : List (Nat × Req)
  /-- Bytes driven on HP_SIO by the latest transaction (R204). -/
  sio     : List Byte
  deriving DecidableEq, Repr

/-- A frame as a port transmits it (Table 4-3). -/
structure TxFrame where
  typ     : BitVec 4
  dst     : BitVec 6
  src     : BitVec 6
  seq     : Byte
  aux     : BitVec 16
  win     : Word
  payload : List Byte
  /-- Times it was sent again (R155). -/
  resends : Nat
  /-- Port whose buffer it still occupies, when it is forwarded (R164). -/
  holds   : Option Port
  deriving DecidableEq, Repr

/-- An ordered set as sent: TYPE and D0 to D4 (R132). -/
structure OSet where
  typ  : Byte
  data : List Byte
  deriving DecidableEq, Repr

/-- What a port sends on its lanes: an ordered set, a frame that ends in EOF, or the bytes of a copy that ends in EDB (R148). -/
inductive WireItem where
  | set (o : OSet)
  | frame (f : TxFrame)
  | void (bytes : List Byte)
  deriving DecidableEq, Repr

/-- One Row Link port (chapter 4). Credit counts are kept for classes 0 and 1. -/
structure PortSt where
  up        : Bool
  disabled  : Bool
  /-- Consecutive valid TRAIN sets received on lane 0 and lane 1, at most 16 (R165). -/
  train0    : Nat
  train1    : Nat
  /-- TRAIN sets sent since the first one was received, at most 16; none before that (R165). -/
  trainTx   : Option Nat
  /-- Symbol times between the lanes' COMs in the latest TRAIN set (R166). -/
  skew      : Nat
  /-- Instants of the symbol errors of the latest 1 µs (R168). -/
  errs      : List Nat
  peerAddr  : BitVec 6
  peerProduct : Byte
  txSeq     : Byte
  replay    : List TxFrame
  /-- Frames that are ready and have not started (R149). -/
  waiting   : List TxFrame
  rxExp     : Byte
  /-- The SEQs that NAKs of the latest 4 µs have named, with the instants of those NAKs (R153). -/
  nakFor    : List (Byte × Nat)
  txUnits0  : BitVec 16
  txUnits1  : BitVec 16
  txRel0    : BitVec 16
  txRel1    : BitVec 16
  rxRel0    : BitVec 16
  rxRel1    : BitVec 16
  /-- Ordered sets that wait, in the order in which they leave (R136). -/
  osets     : List OSet
  /-- What goes onto the lanes in this cycle of the I/O clock, in order. -/
  sent      : List WireItem
  /-- Running disparity of each transmit lane at the start of this cycle; true is positive (R128). -/
  txRd0     : Bool
  txRd1     : Bool
  /-- Running disparity of each receive lane behind the latest codes that came as codes; none before the first ones (R128, R131). -/
  rxRd0     : Option Bool
  rxRd1     : Option Bool
  deriving DecidableEq, Repr

/-- A row of the head's enumeration table (Table 5-4). -/
structure EnumRow where
  addr    : Nat
  product : Byte
  flags   : Byte
  ns      : Nat
  deriving DecidableEq, Repr

/-- One half of a token pair that waits for the other (R196). -/
structure Half where
  isA     : Bool
  src     : BitVec 6
  pair    : BitVec 16
  win     : Word
  payload : List Byte
  port    : Port
  /-- Credit units that it holds in the port's buffer (R164). -/
  units   : Nat
  deriving DecidableEq, Repr

/-- The Row Link of the node (chapter 4). -/
structure Link where
  upPort    : PortSt
  dnPort    : PortSt
  addr      : BitVec 6
  rowLen    : Nat
  rowUp     : Bool
  enumBusy  : Bool
  enumRows  : List EnumRow
  overflow  : Bool
  /-- ENUMERATE requests that wait for the end of enumeration (R173). -/
  enumReqs  : List Req
  /-- An offer that waits for the DN link: NEXT and BASE (R174, R176). -/
  dnWait    : Option (Nat × Nat)
  lockBad   : Bool
  /-- Round trips of the ECHO sets so far, in 125 ps (R172). -/
  echoes    : List Nat
  hseqTx    : Byte
  /-- Last HSEQ accepted per source, with its instant (R192). -/
  hseqRx    : List (BitVec 6 × Byte × Nat)
  pairTx    : BitVec 16
  halves    : List Half
  deriving DecidableEq, Repr

/-- A parsed slot table entry (Table 2-2). -/
structure Slot where
  eng     : Nat
  start   : Nat
  reserve : Nat
  list    : Nat
  len     : Nat
  deriving DecidableEq, Repr

/-- A loaded image: where it lies, its slot table, and the places of its grade table and expert map (Table 8-10). -/
structure Image where
  addr     : Nat
  size     : Nat
  ng       : Nat
  pMin     : Nat
  minCores : Nat
  slots    : List Slot
  gradeOff : Nat
  gradeLen : Nat
  mapOff   : Nat
  mapLen   : Nat
  deriving DecidableEq, Repr

/-- A work-item descriptor (Table 9-1) with the command words its items work from. -/
structure Desc where
  id      : Nat
  tiled   : Bool
  src     : Nat
  vector  : Bool
  prio    : Nat
  cores   : Nat
  typ     : Nat
  tiles   : Nat
  cmdId   : Nat
  cmdAddr : Nat
  entry   : Nat
  extent  : Nat
  /-- Extent of K and V of an ATTEND. -/
  keys    : Nat
  tileM   : Nat
  tileN   : Nat
  kSplit  : Nat
  kChunk  : Nat
  /-- CORES of the command's ME field, which the matrix parts of an ATTEND take (R493). -/
  meCores : Nat
  next    : Nat
  doneTiles : Nat
  /-- Work items of the command that have not completed (R371, R496). -/
  left    : Nat
  /-- Since when its next tile has waited for a scratch block or continuation entry (R372, R495). -/
  stallAt : Option Nat
  /-- The command's words, header first. -/
  words   : List Word
  deriving DecidableEq, Repr

/-- A work item in a slot or a continuation list: its descriptor, the tile or block it stands for, and its TYPE. -/
structure Item where
  desc : Nat
  tile : Nat
  typ  : Nat
  deriving DecidableEq, Repr

/-- An open scratch block (R374, R494). -/
structure Scratch where
  desc  : Nat
  block : Nat
  addr  : Nat
  size  : Nat
  chunks : Nat
  /-- Row-sum partials of the chunks that have completed, row by row (R382, R421). -/
  sums : List (List Int)
  deriving DecidableEq, Repr

/-- The Dispatcher (chapter 9). -/
structure Dsp where
  descs    : List Desc
  /-- Descriptors in the ready queues, in enqueue order; the queue of each is its priority (R357, R358). -/
  ready    : List Nat
  /-- Continuation items, oldest first; the list of each is its descriptor's priority (R361). -/
  conts    : List Item
  /-- Active and prefetch slots: unit 0 to 63 MC0 to MC63, 64 to 71 VU0 to VU7 (R364). -/
  active   : List (Nat × Item)
  prefetch : List (Nat × Item)
  scratch  : List Scratch
  nextId   : Nat
  deriving DecidableEq, Repr

/-- Why a list does not issue (R333, R335, R360). -/
inductive Block where
  | none
  | sync (fc value tmo : Nat)
  | waitSlot (completed : Bool) (entry : Nat)
  | held (d : Desc)
  /-- An XE or PE command runs (R315), with its words as they were at its issue (R321). -/
  | busy (words : List Word)
  deriving DecidableEq, Repr

/-- A running entry of an engine (R313). -/
structure Run where
  entry  : Nat
  list   : Nat
  len    : Nat
  /-- Word offset of the command being issued. -/
  pos    : Nat
  /-- An ENG = 2 entry, which occupies both matrix engines. -/
  both   : Bool
  block  : Block
  /-- Every command has been issued, or the rest was dropped. -/
  ended  : Bool
  /-- The command at pos has waited for a scene-memory move (R520). -/
  waited : Bool
  deriving DecidableEq, Repr

/-- The engines (chapter 8). -/
structure Eng where
  me0 : Option Run
  me1 : Option Run
  ve  : Option Run
  xe  : Option Run
  pe  : Option Run
  /-- The active image (R345). -/
  image : Option Image
  deriving DecidableEq, Repr

/-- What an assignment of this node came to in an expert layer (R478). -/
inductive Fate where
  | sent
  | returned
  | dropped
  | lost
  deriving DecidableEq, Repr

/-- A sent assignment: token, rank, expert, its destination and its fate (R480). -/
structure Assign where
  token  : Nat
  rank   : Nat
  expert : Nat
  dest   : Nat
  /-- T of R477: declared ROWS of X of the SCATTER or SORT that sent it. -/
  rows   : Nat
  fate   : Fate
  deriving DecidableEq, Repr

/-- A token that arrived for a sorted layer and waits for the decision of R472. -/
structure Arrived where
  src   : Nat
  pos   : Nat
  tag   : Word
  scale : Byte
  row   : List Byte
  deriving DecidableEq, Repr

/-- What one source has declared and delivered in the present inbound of a layer. -/
structure Seg where
  src      : Nat
  /-- The control pair arrived, with this TOTAL. -/
  total    : Option Nat
  pairHdr  : BitVec 16
  counts   : List Nat
  got      : Nat
  deriving DecidableEq, Repr

/-- The state of one expert layer in the present tick (R480). -/
structure LayerSt where
  layer   : Nat
  sent    : List Assign
  /-- Declared ROWS of X of the latest SORT, and its assignments per destination (R468, R477). -/
  rowsX   : Nat
  counts  : List Nat
  /-- Declared counts of each source, per resident slot (R471, R480). -/
  declared : List (Nat × List Nat)
  /-- Rows placed per resident slot: (slot, tag) in bin order. -/
  placed  : List (Nat × Word)
  /-- Assignments this host dropped: (source, token, rank). -/
  dropped : List (Nat × Nat × Nat)
  deriving DecidableEq, Repr

/-- The command whose inbound traffic the XE takes (R461). -/
structure Inbound where
  layer  : Nat
  /-- 0 SCATTER, 1 EXCHANGE out, 2 EXCHANGE back. -/
  kind   : Nat
  fc     : Nat
  recv   : Nat
  bytes  : Nat
  shapeOff : Nat
  /-- WIN of the command's own pairs, at which its window closes (R462). -/
  win    : Word
  segs   : List Seg
  arrived : List Arrived
  deriving DecidableEq, Repr

/-- A complete token pair that waits in the class-1 buffer (R461, R465). -/
structure Pair where
  src   : BitVec 6
  pair  : BitVec 16
  win   : Word
  a     : List Byte
  b     : List Byte
  port  : Port
  /-- Credit units that it holds in the port's buffer (R164). -/
  units : Nat
  /-- It found its bin full (R465). -/
  full  : Bool
  deriving DecidableEq, Repr

/-- The Exchange Engine (chapter 11). -/
structure Xe where
  layers  : List LayerSt
  inbound : Option Inbound
  /-- Next free row of each bin, by layer and resident slot (R455). -/
  bins    : List (Nat × Nat × Nat)
  pairs   : List Pair
  deriving DecidableEq, Repr

/-- A max-abs collector's window (R437): maxima as FP32 words by channel, and the marks of its FLAGS. -/
structure Coll where
  maxima : List (Nat × Word)
  trunc  : Bool
  nan    : Bool
  window : Nat
  deriving DecidableEq, Repr

/-- Collectors and the Pruner's counts of the running tick (R436 to R442, R508). -/
structure Qs where
  coll     : List Coll
  kept     : Nat
  skipFar  : Nat
  skipWeak : Nat
  restored : Nat
  deriving DecidableEq, Repr

/-- Scene memory (R514 to R520). -/
structure Sm where
  fill    : Nat
  newest  : Nat
  valid   : Bool
  moving  : Bool
  /-- A commit at this edge emptied the ring (R516). -/
  emptied : Bool
  deriving DecidableEq, Repr

/-- A TICK_STATE that the head holds: address, tick number and DATA (R535). -/
structure TickState where
  addr : Nat
  tick : Word
  data : Word
  deriving DecidableEq, Repr

/-- Result pages (chapter 13). -/
structure Res where
  valid  : Bool
  newest : Bool
  /-- Ticks of the completed pages 0 and 1. -/
  page0  : Option Word
  page1  : Option Word
  /-- The report of this tick has been made: a member's TICK_STATE or the head's page. -/
  done   : Bool
  /-- A page has completed since the schedule started (R537). -/
  since  : Bool
  /-- The copy that runs: target page 1, and the page's bytes. -/
  copy   : Option (Bool × Word × List Byte)
  states : List TickState
  deriving DecidableEq, Repr

/-- The imager (chapter 14). -/
structure Img where
  on       : Bool
  ready    : Bool
  /-- A SRC 0 PIXEL command had begun to issue by the arming time, and the frame is taken. -/
  taken    : Bool
  /-- The arming time of this tick has passed. -/
  armPassed : Bool
  /-- EN and IMG_READY were 1 at the arming time (R550). -/
  armOk     : Bool
  exposing : Bool
  /-- The exposure of this tick's frame has ended. -/
  exposed  : Bool
  /-- STROBE is active. -/
  strobe   : Bool
  /-- The frame broke off through a VDD_PIX brown-out (REASON 3). -/
  browned  : Bool
  /-- Rows that have arrived, after black level when BL is 1; raw converted values otherwise. -/
  rows     : List (List Nat)
  /-- Delivered pixels whose converted value was 1,023. -/
  sat      : Nat
  deriving DecidableEq, Repr

/-- Programming of the standing model area (R576): the bytes to write and whether the first check passed. -/
structure ProgJob where
  bytes : List Byte
  ok    : Bool
  deriving DecidableEq, Repr

/-- The standing model and watch frames (R568 to R583). -/
structure Wm where
  valid    : Bool
  settings : Bool
  present  : Bool
  onCount  : Nat
  offCount : Nat
  /-- Evaluated frames since each class was raised (R582). -/
  recent   : List (Nat × Nat)
  frame    : Bool
  image    : Option Image
  outAddr  : Nat
  job      : Option ProgJob
  deriving DecidableEq, Repr

/-- A regular sequence that runs or is suspended (R598, R604). -/
structure RegRun where
  idx       : Nat
  /-- The cross entry comes first and has not been delivered (R606). -/
  cross     : Bool
  /-- Its cross conversion was ended by the other converter and delivers nothing (R608). -/
  crossVoid : Bool
  /-- TICK_NUM of the edge that triggered it. -/
  tick      : Word
  /-- The ADC clock of its trigger, where the trigger started it at once (R605). -/
  clk       : Option Nat
  deriving DecidableEq, Repr

/-- A calibration step that runs (R650). -/
structure CalJob where
  req    : Req
  full   : Bool
  ch     : Nat
  target : Nat
  /-- REF_READY has fallen since the step began (R650). -/
  lost   : Bool
  deriving DecidableEq, Repr

/-- One converter (chapter 15). -/
structure ConvSt where
  reg    : Option RegRun
  /-- Index of the injected entry being converted. -/
  inj    : Option Nat
  /-- A regular trigger is held; true when it came from an edge. -/
  held   : Option Bool
  /-- The ADC clocks at which the latest regular and the latest injected trigger reached the converter (R605). -/
  regClk : Option Nat
  injClk : Option Nat
  /-- REF_READY was 0 when the running conversion began to sample (R593). -/
  refnr  : Bool
  zero   : Option (Nat × Nat)
  cal    : Option CalJob
  deriving DecidableEq, Repr

/-- The cross entry of edge triggers that both converters hold (R607): its tick, and the ADC clock in which the first of the two sequences
has started. -/
structure CrossDue where
  tick : Word
  clk  : Option Nat
  deriving DecidableEq, Repr

/-- The converters, the reference, the cross check and the mover (chapters 15 and 16). -/
structure Adc where
  a        : ConvSt
  b        : ConvSt
  refReady : Bool
  /-- Cross results that have been delivered in the running check, as data words. -/
  crossA   : Option Word
  crossB   : Option Word
  crossDue : Option CrossDue
  /-- Instant of the edge at which the ADC clock last restarted, in ns (R597). -/
  origin   : Nat
  live     : Nat
  liveRefnr : Bool
  liveFull : Bool
  closing  : Bool
  /-- Results that wait for the close, each with the ADC clock of its delivery (R616, R619). -/
  waiting  : List (Nat × Word)
  /-- The ADC clock of the latest page entry, where it is a result of ADC B, and the page's REFNR mark before it (R616). -/
  lastB    : Option (Nat × Bool)
  deriving DecidableEq, Repr

/-- The reflex (chapter 16). -/
structure Rfx where
  raw   : BitVec 4
  filt  : BitVec 4
  latch : BitVec 4
  fhalt : Bool
  deriving DecidableEq, Repr

/-- A ball that passes through its hand-over (R254): GPIO 0 to 7, AIN 8 to 23, STROBE 24, and the level its keeper holds. -/
structure HandOver where
  ball : Nat
  hold : Option Bool
  deriving DecidableEq, Repr

/-- Pins (chapter 17). -/
structure Pins where
  /-- Levels that the surroundings put on the GPIO balls they drive. -/
  gpio   : BitVec 8
  /-- GPIO balls that the surroundings drive. -/
  driven : BitVec 8
  /-- What the surroundings connect to AIN0 to AIN3. -/
  ain    : List Source
  /-- Levels that the digital input buffers of AIN0 to AIN15 took last (Table 19-3). -/
  ainBit : BitVec 16
  hand   : List HandOver
  /-- The TRACE_SYNC function is in its pulse (R660). -/
  pulse  : Bool
  deriving DecidableEq, Repr

/-- A held fault record (Table 18-2). -/
structure FltRec where
  code   : BitVec 16
  sev    : Nat
  irq    : Bool
  halt   : Bool
  level  : Bool
  src    : Nat
  tick   : Word
  data   : Word
  seq    : Nat
  repeats : Nat
  deriving DecidableEq, Repr

/-- A condition that waits for its record (R687): CODE, SEV, SRC, DATA and, for a row record, the TICK of its EVENT. -/
structure Cond where
  code : BitVec 16
  sev  : Nat
  src  : Nat
  data : Word
  tick : Option Word
  deriving DecidableEq, Repr

/-- The fault log and the black box (chapter 18). -/
structure Flt where
  log     : List FltRec
  seq     : Nat
  conds   : List Cond
  /-- SEQ of the records whose black-box copies wait. -/
  copies  : List FltRec
  /-- A copy that failed and waits for its one retry (R703). -/
  failed  : Option FltRec
  bbNext  : Nat
  bbSeq   : Nat
  deriving DecidableEq, Repr

/-- Energy and heat (chapter 7). -/
structure En where
  bal      : Int
  /-- Energy below one unit carried into the next tick, per domain in nJ (R275). -/
  resCore  : Nat
  resMem   : Nat
  resAna   : Nat
  resIo    : Nat
  /-- Energy drawn since the meters' counts last restarted, per domain in nJ (R278). -/
  acc      : Spend
  /-- What EN_CUR shows, in 0.25 µJ units (R278). -/
  shown    : Nat
  clear    : Bool
  pinValid : Bool
  pin      : Nat
  floor    : Nat
  cur      : Nat
  hot      : Nat
  cool     : Nat
  hold     : Bool
  /-- Direction of the latest floor change and the ticks since it, at most 65 (R303). -/
  change   : Option (Bool × Nat)
  /-- Sum and count of the instants' maxima, in 1/16 °C (R297). -/
  maxSum   : Int
  maxCount : Nat
  /-- Sum and count of the valid samples of each sensor. -/
  sens     : List (Int × Nat)
  deriving DecidableEq, Repr

/-- Trace (R394 to R400): records in the buffer of the current instant. -/
structure Trace where
  buffered : Nat
  deriving DecidableEq, Repr

/-- All units of the node. -/
structure Units where
  pwr   : Pwr
  tick  : Tick
  stg   : Stg
  hp    : Hp
  link  : Link
  en    : En
  eng   : Eng
  dsp   : Dsp
  xe    : Xe
  qs    : Qs
  sm    : Sm
  res   : Res
  img   : Img
  wm    : Wm
  adc   : Adc
  rfx   : Rfx
  pins  : Pins
  flt   : Flt
  trace : Trace
  deriving DecidableEq, Repr

/-- What an RC field recorded in the present cycle (R12): its register, the word before the cycle's first event that no read has
returned yet, and what the events of the cycle contribute. -/
structure RcNote where
  reg    : Nat
  before : Word
  events : Word
  deriving DecidableEq, Repr

/-- One addition to a saturating count in the present cycle (R682): its register, its field and the amount. -/
structure CountNote where
  reg : Nat
  hi  : Nat
  lo  : Nat
  n   : Nat
  deriving DecidableEq, Repr

/-- An overrun in the present cycle (R611): the converter, and its OVR flag and count before it. -/
structure OvrNote where
  conv  : Conv
  flag  : Nat
  count : Nat
  deriving DecidableEq, Repr

/-- The releases of latches in the present cycle (R641): LATCH, FHALT and HSEQ before the first of them, and TAG and STILL of each reply to
one. -/
structure ReleaseNote where
  latch   : BitVec 4
  fhalt   : Bool
  hseq    : Byte
  replies : List (Byte × BitVec 4)
  deriving DecidableEq, Repr

/-- What has happened in the present cycle of the I/O clock (log entry 1): the commands between two cycles of the clock fall into one
cycle, and R11, R12, R611, R641 and R682 tell events of one cycle from later ones. -/
structure Cycle where
  /-- W1C bits that hardware set, by register (R11). -/
  flags  : List (Nat × Word)
  rc     : List RcNote
  counts : List CountNote
  /-- Overruns of a converter's data register, with the OVR flag and its count before them (R611). -/
  ovr    : List OvrNote
  release : Option ReleaseNote
  deriving DecidableEq, Repr

/-- The state of the block. -/
structure State where
  units   : Units
  /-- Events of the present cycle of the I/O clock. -/
  cycle   : Cycle
  /-- Register words that differ from their reset value, by ascending address; what a register reads beside the live
  fields of the units (Tables 20-2 to 20-17). -/
  regs    : List (Nat × Word)
  /-- Memory bytes that are not 0, by ascending address (Table 0-4). -/
  mem     : List Host.Cell
  fuse    : Fuse
  /-- The model's clock in ns. DESIGN CHOICE, log entry 1. -/
  now     : Nat
  /-- Free values drawn so far. The model's own field; DESIGN CHOICE 0 at reset, log entry 9. -/
  free    : Nat
  /-- Commands that wait, first in, first out. -/
  pending : List Instr
  deriving DecidableEq, Repr

/-- Straps left open: HEAD_N high, BOOT_MODE 0, 0 (R657). -/
def Straps.opened : Straps := { headN := true, mode1 := false, mode0 := false }

/-- Power at the end of reset, boot ROM running (R96, R112). -/
def Pwr.reset : Pwr :=
  { phase := .rom, bootAt := 0, resetLow := false, strapsKept := true, straps := Straps.opened, strapPins := Straps.opened,
    brown := [], vddPixLow := false, mramOk := true, rowLinkOk := true, triedA := false, triedB := false, slotB := false,
    level := .keep, pend := none, pendReady := false, bistDone := false, bistRan := false, coreOk := 0, fwSramOk := true, shSramOk := true, memDieOk := false,
    imagerOk := false, peOk := true, adcAOk := true, adcBOk := true, resetAsked := false, xfer := none, hostImage := false }

def Tick.reset : Tick :=
  { num := 0, edgeAt := none, edges := false, metered := false, running := false, ending := .none, announced := none,
    flywheel := false, flyCount := 0, held := false, accepted := 0, acceptAt := 0, flyAt := 0, tickOut := false, sched := false,
    startAt := none, stopping := false, entries := [], started := 0, last := 0, guard := false, incomplete := false,
    lost := false, untrusted := false, exact := false, wholeTick := false, pass := false, passAt := 0 }

def Stg.reset : Stg := { bank := [], pend := none, job := none }

def Hp.reset : Hp := { queue := [], out := [], winHost := [], winRow := [], parked := [], sio := [] }

def PortSt.reset : PortSt :=
  { up := false, disabled := false, train0 := 0, train1 := 0, trainTx := none, skew := 0, errs := [], peerAddr := 0, peerProduct := 0, txSeq := 0, replay := [],
    waiting := [], rxExp := 0, nakFor := [], txUnits0 := 0, txUnits1 := 0, txRel0 := 0, txRel1 := 0,
    rxRel0 := 0, rxRel1 := 0, osets := [], sent := [], txRd0 := false, txRd1 := false, rxRd0 := none, rxRd1 := none }

def Link.reset : Link :=
  { upPort := PortSt.reset, dnPort := PortSt.reset, addr := 0, rowLen := 0, rowUp := false, enumBusy := false, enumRows := [],
    overflow := false, enumReqs := [], dnWait := none, lockBad := false, echoes := [], hseqTx := 0, hseqRx := [],
    pairTx := 0, halves := [] }

def En.reset : En :=
  { bal := 0, resCore := 0, resMem := 0, resAna := 0, resIo := 0, acc := { core := 0, mem := 0, ana := 0, io := 0 }, shown := 0, clear := false, pinValid := false, pin := 0, floor := 0,
    cur := 0, hot := 0, cool := 0, hold := false, change := none, maxSum := 0, maxCount := 0, sens := List.replicate 6 (0, 0) }

def Eng.reset : Eng := { me0 := none, me1 := none, ve := none, xe := none, pe := none, image := none }

def Dsp.reset : Dsp :=
  { descs := [], ready := [], conts := [], active := [], prefetch := [], scratch := [], nextId := 0 }

def Xe.reset : Xe := { layers := [], inbound := none, bins := [], pairs := [] }

def Coll.reset : Coll := { maxima := [], trunc := false, nan := false, window := 0 }

def Qs.reset : Qs := { coll := List.replicate 16 Coll.reset, kept := 0, skipFar := 0, skipWeak := 0, restored := 0 }

def Sm.reset : Sm := { fill := 0, newest := 0, valid := false, moving := false, emptied := false }

def Res.reset : Res :=
  { valid := false, newest := false, page0 := none, page1 := none, done := false, since := false, copy := none, states := [] }

def Img.reset : Img :=
  { on := false, ready := false, taken := false, armPassed := false, armOk := false, exposing := false, exposed := false, strobe := false, browned := false,
    rows := [], sat := 0 }

def Wm.reset : Wm :=
  { valid := false, settings := true, present := false, onCount := 0, offCount := 0, recent := [], frame := false,
    image := none, outAddr := 0, job := none }

def ConvSt.reset : ConvSt := { reg := none, inj := none, held := none, regClk := none, injClk := none, refnr := false, zero := none, cal := none }

def Adc.reset : Adc :=
  { a := ConvSt.reset, b := ConvSt.reset, refReady := false, crossA := none, crossB := none, crossDue := none, origin := 0, live := 0, liveRefnr := false,
    liveFull := false, closing := false, waiting := [], lastB := none }

def Rfx.reset : Rfx := { raw := 0, filt := 0, latch := 0, fhalt := false }

def Pins.reset : Pins := { gpio := 0, driven := 0, ain := List.replicate 4 ⟨0, 0⟩, ainBit := 0, hand := [], pulse := false }

def Flt.reset : Flt := { log := [], seq := 1, conds := [], copies := [], failed := none, bbNext := 0, bbSeq := 0 }

/-- Every unit at the end of a reset. -/
def Units.reset : Units :=
  { pwr := Pwr.reset, tick := Tick.reset, stg := Stg.reset, hp := Hp.reset, link := Link.reset, en := En.reset,
    eng := Eng.reset, dsp := Dsp.reset, xe := Xe.reset, qs := Qs.reset, sm := Sm.reset, res := Res.reset, img := Img.reset,
    wm := Wm.reset, adc := Adc.reset, rfx := Rfx.reset, pins := Pins.reset, flt := Flt.reset, trace := { buffered := 0 } }

/-- A BRN-V64 with serial number 0. DESIGN CHOICE, log entry 4: the spec leaves the fuses to the package test. -/
def Fuse.reset : Fuse := { isV64 := true, serial := 0 }

/-- A cycle in which nothing has happened yet. -/
def Cycle.empty : Cycle := { flags := [], rc := [], counts := [], ovr := [], release := none }

/-- The node at the end of a reset caused by RESET_N, before the boot ROM acts (R737). PWR_RST_CAUSE holds PIN; every
other register holds its reset word (log entries 3 to 8). -/
def State.reset : State :=
  { units := Units.reset, cycle := Cycle.empty, regs := [(0x080F0004, 1)], mem := [], fuse := Fuse.reset, now := 0, free := 0, pending := [] }

/-- Power, reset and boot. -/
abbrev State.pwr (s : State) : Pwr := s.units.pwr
/-- Ticks and slots. -/
abbrev State.tick (s : State) : Tick := s.units.tick
/-- Staging. -/
abbrev State.stg (s : State) : Stg := s.units.stg
/-- The host port. -/
abbrev State.hp (s : State) : Hp := s.units.hp
/-- The Row Link. -/
abbrev State.link (s : State) : Link := s.units.link
/-- Energy and heat. -/
abbrev State.en (s : State) : En := s.units.en
/-- The engines. -/
abbrev State.eng (s : State) : Eng := s.units.eng
/-- The Dispatcher. -/
abbrev State.dsp (s : State) : Dsp := s.units.dsp
/-- The Exchange Engine. -/
abbrev State.xe (s : State) : Xe := s.units.xe
/-- Collectors and Pruner counts. -/
abbrev State.qs (s : State) : Qs := s.units.qs
/-- Scene memory. -/
abbrev State.sm (s : State) : Sm := s.units.sm
/-- Result pages. -/
abbrev State.res (s : State) : Res := s.units.res
/-- The imager. -/
abbrev State.img (s : State) : Img := s.units.img
/-- The standing model. -/
abbrev State.wm (s : State) : Wm := s.units.wm
/-- The converters and the mover. -/
abbrev State.adc (s : State) : Adc := s.units.adc
/-- The reflex. -/
abbrev State.rfx (s : State) : Rfx := s.units.rfx
/-- The pins. -/
abbrev State.pins (s : State) : Pins := s.units.pins
/-- The fault log. -/
abbrev State.flt (s : State) : Flt := s.units.flt

end Sys2Proof.Machine
end

