-- ==== Sys2Proof/Machine/Regs.lean ====
section
/-! DEFINITION. The register map: the name and address of every register, and for each the masks of its fields by access
type and class, with its reset word (Tables 20-2 to 20-17 and the field tables of the chapters). -/

namespace Sys2Proof.Machine

/-- SYS_ID (0x08000000). -/
abbrev Reg.sysId : Nat := 0x08000000
/-- SYS_REV (0x08000004). -/
abbrev Reg.sysRev : Nat := 0x08000004
/-- SYS_CAPS (0x08000008). -/
abbrev Reg.sysCaps : Nat := 0x08000008
/-- SYS_NODE (0x0800000C). -/
abbrev Reg.sysNode : Nat := 0x0800000C
/-- SYS_CORE_LO, SYS_CORE_HI (0x08000010). -/
abbrev Reg.sysCoreLo : Nat := 0x08000010
/-- SYS_CORE_LO, SYS_CORE_HI (0x08000014). -/
abbrev Reg.sysCoreHi : Nat := 0x08000014
/-- RES_CTRL (0x08000100). -/
abbrev Reg.resCtrl : Nat := 0x08000100
/-- RES_WORK (0x08000104). -/
abbrev Reg.resWork : Nat := 0x08000104
/-- RES_PAGE0, RES_PAGE1 (0x08000108). -/
abbrev Reg.resPage0 : Nat := 0x08000108
/-- RES_PAGE0, RES_PAGE1 (0x0800010C). -/
abbrev Reg.resPage1 : Nat := 0x0800010C
/-- RES_LEN (0x08000110). -/
abbrev Reg.resLen : Nat := 0x08000110
/-- RES_EXPECT (0x08000114). -/
abbrev Reg.resExpect : Nat := 0x08000114
/-- RES_STAT (0x08000118). -/
abbrev Reg.resStat : Nat := 0x08000118
/-- RES_FLAGS (0x0800011C). -/
abbrev Reg.resFlags : Nat := 0x0800011C
/-- RES_CNT0 (0x08000120). -/
abbrev Reg.resCnt0 : Nat := 0x08000120
/-- RES_CNT1 (0x08000124). -/
abbrev Reg.resCnt1 : Nat := 0x08000124
/-- TICK_CTRL (0x08010000). -/
abbrev Reg.tickCtrl : Nat := 0x08010000
/-- TICK_PERIOD (0x08010004). -/
abbrev Reg.tickPeriod : Nat := 0x08010004
/-- TICK_GUARD (0x08010008). -/
abbrev Reg.tickGuard : Nat := 0x08010008
/-- TICK_NUM (0x0801000C). -/
abbrev Reg.tickNum : Nat := 0x0801000C
/-- TICK_OFFSET (0x08010010). -/
abbrev Reg.tickOffset : Nat := 0x08010010
/-- TICK_MEAS (0x08010014). -/
abbrev Reg.tickMeas : Nat := 0x08010014
/-- TICK_STAT (0x08010018). -/
abbrev Reg.tickStat : Nat := 0x08010018
/-- TICK_CNT0 (0x0801001C). -/
abbrev Reg.tickCnt0 : Nat := 0x0801001C
/-- TICK_CNT1 (0x08010020). -/
abbrev Reg.tickCnt1 : Nat := 0x08010020
/-- TICK_CNT2 (0x08010024). -/
abbrev Reg.tickCnt2 : Nat := 0x08010024
/-- TICK_OVR_NUM (0x08010028). -/
abbrev Reg.tickOvrNum : Nat := 0x08010028
/-- TICK_HOP_DLY (0x0801002C). -/
abbrev Reg.tickHopDly : Nat := 0x0801002C
/-- SLOT_CUR (0x08010030). -/
abbrev Reg.slotCur : Nat := 0x08010030
/-- EN_CTRL (0x08020000). -/
abbrev Reg.enCtrl : Nat := 0x08020000
/-- EN_BUDGET (0x08020004). -/
abbrev Reg.enBudget : Nat := 0x08020004
/-- EN_CARRY_MAX (0x08020008). -/
abbrev Reg.enCarryMax : Nat := 0x08020008
/-- EN_BAL (0x0802000C). -/
abbrev Reg.enBal : Nat := 0x0802000C
/-- EN_LAST_CORE, EN_LAST_MEM, EN_LAST_ANA, EN_LAST_IO (0x08020010). -/
abbrev Reg.enLastCore : Nat := 0x08020010
/-- EN_LAST_CORE, EN_LAST_MEM, EN_LAST_ANA, EN_LAST_IO (0x08020014). -/
abbrev Reg.enLastMem : Nat := 0x08020014
/-- EN_LAST_CORE, EN_LAST_MEM, EN_LAST_ANA, EN_LAST_IO (0x08020018). -/
abbrev Reg.enLastAna : Nat := 0x08020018
/-- EN_LAST_CORE, EN_LAST_MEM, EN_LAST_ANA, EN_LAST_IO (0x0802001C). -/
abbrev Reg.enLastIo : Nat := 0x0802001C
/-- EN_CUR (0x08020020). -/
abbrev Reg.enCur : Nat := 0x08020020
/-- First of EN_EST0 to EN_EST3 (0x08020024). -/
abbrev Reg.enEst0 : Nat := 0x08020024
/-- EN_GRADE (0x08020034). -/
abbrev Reg.enGrade : Nat := 0x08020034
/-- EN_FLAGS (0x08020038). -/
abbrev Reg.enFlags : Nat := 0x08020038
/-- EN_CNT0 (0x0802003C). -/
abbrev Reg.enCnt0 : Nat := 0x0802003C
/-- EN_CNT1 (0x08020040). -/
abbrev Reg.enCnt1 : Nat := 0x08020040
/-- EN_CNT2 (0x08020044). -/
abbrev Reg.enCnt2 : Nat := 0x08020044
/-- TH_LIMITS (0x08020048). -/
abbrev Reg.thLimits : Nat := 0x08020048
/-- TH_AVG (0x0802004C). -/
abbrev Reg.thAvg : Nat := 0x0802004C
/-- First of TH_SENS0 to TH_SENS5 (0x08020050). -/
abbrev Reg.thSens0 : Nat := 0x08020050
/-- TH_STAT (0x08020068). -/
abbrev Reg.thStat : Nat := 0x08020068
/-- RL_STAT (0x08030000). -/
abbrev Reg.rlStat : Nat := 0x08030000
/-- RL_FLAGS (0x08030004). -/
abbrev Reg.rlFlags : Nat := 0x08030004
/-- RL_CNT0 (0x08030008). -/
abbrev Reg.rlCnt0 : Nat := 0x08030008
/-- RL_CNT1 (0x0803000C). -/
abbrev Reg.rlCnt1 : Nat := 0x0803000C
/-- RL_CNT2 (0x08030010). -/
abbrev Reg.rlCnt2 : Nat := 0x08030010
/-- RL_CNT3 (0x08030014). -/
abbrev Reg.rlCnt3 : Nat := 0x08030014
/-- RL_CNT4 (0x08030018). -/
abbrev Reg.rlCnt4 : Nat := 0x08030018
/-- RL_CTRL (0x0803001C). -/
abbrev Reg.rlCtrl : Nat := 0x0803001C
/-- RL_LOCK (0x08030020). -/
abbrev Reg.rlLock : Nat := 0x08030020
/-- RL_LOCK_SER_LO, RL_LOCK_SER_HI (0x08030024). -/
abbrev Reg.rlLockSerLo : Nat := 0x08030024
/-- RL_LOCK_SER_LO, RL_LOCK_SER_HI (0x08030028). -/
abbrev Reg.rlLockSerHi : Nat := 0x08030028
/-- RL_SERIAL_LO, RL_SERIAL_HI (0x0803002C). -/
abbrev Reg.rlSerialLo : Nat := 0x0803002C
/-- RL_SERIAL_LO, RL_SERIAL_HI (0x08030030). -/
abbrev Reg.rlSerialHi : Nat := 0x08030030
/-- RL_LINK_DLY (0x08030034). -/
abbrev Reg.rlLinkDly : Nat := 0x08030034
/-- RL_RETRY_CNT (0x08030038). -/
abbrev Reg.rlRetryCnt : Nat := 0x08030038
/-- RL_CRC_CNT (0x0803003C). -/
abbrev Reg.rlCrcCnt : Nat := 0x0803003C
/-- RL_OS_CNT (0x08030040). -/
abbrev Reg.rlOsCnt : Nat := 0x08030040
/-- HP_CTRL (0x08040000). -/
abbrev Reg.hpCtrl : Nat := 0x08040000
/-- HP_QSTAT (0x08040004). -/
abbrev Reg.hpQstat : Nat := 0x08040004
/-- HP_IRQ_STAT (0x08040008). -/
abbrev Reg.hpIrqStat : Nat := 0x08040008
/-- HP_IRQ_EN (0x0804000C). -/
abbrev Reg.hpIrqEn : Nat := 0x0804000C
/-- HP_CNT0 (0x08040010). -/
abbrev Reg.hpCnt0 : Nat := 0x08040010
/-- HP_CNT1 (0x08040014). -/
abbrev Reg.hpCnt1 : Nat := 0x08040014
/-- HP_CNT2 (0x08040018). -/
abbrev Reg.hpCnt2 : Nat := 0x08040018
/-- HP_CNT3 (0x0804001C). -/
abbrev Reg.hpCnt3 : Nat := 0x0804001C
/-- HP_CNT4 (0x08040020). -/
abbrev Reg.hpCnt4 : Nat := 0x08040020
/-- HP_CNT5 (0x08040024). -/
abbrev Reg.hpCnt5 : Nat := 0x08040024
/-- HP_CNT6 (0x08040028). -/
abbrev Reg.hpCnt6 : Nat := 0x08040028
/-- STG_STAT (0x08050000). -/
abbrev Reg.stgStat : Nat := 0x08050000
/-- STG_FAIL (0x08050004). -/
abbrev Reg.stgFail : Nat := 0x08050004
/-- STG_PEND_TICK (0x08050008). -/
abbrev Reg.stgPendTick : Nat := 0x08050008
/-- STG_COUNT (0x0805000C). -/
abbrev Reg.stgCount : Nat := 0x0805000C
/-- STG_UNLOCK (0x08050010). -/
abbrev Reg.stgUnlock : Nat := 0x08050010
/-- STG_ROW_HASH (0x08050014). -/
abbrev Reg.stgRowHash : Nat := 0x08050014
/-- STG_MAP_HASH (0x08050018). -/
abbrev Reg.stgMapHash : Nat := 0x08050018
/-- NVM_SEQ_A (0x0805001C). -/
abbrev Reg.nvmSeqA : Nat := 0x0805001C
/-- NVM_SEQ_B (0x08050020). -/
abbrev Reg.nvmSeqB : Nat := 0x08050020
/-- NVM_FLAGS (0x08050024). -/
abbrev Reg.nvmFlags : Nat := 0x08050024
/-- NVM_CNT0 (0x08050028). -/
abbrev Reg.nvmCnt0 : Nat := 0x08050028
/-- NVM_CNT1 (0x0805002C). -/
abbrev Reg.nvmCnt1 : Nat := 0x0805002C
/-- NVM_STORE_CNT (0x08050030). -/
abbrev Reg.nvmStoreCnt : Nat := 0x08050030
/-- STG_LAST_TICK (0x08050034). -/
abbrev Reg.stgLastTick : Nat := 0x08050034
/-- DSP_QLVL01, DSP_QLVL23, DSP_QLVL45, DSP_QLVL67 (0x08060000). -/
abbrev Reg.dspQlvl01 : Nat := 0x08060000
/-- DSP_QLVL01, DSP_QLVL23, DSP_QLVL45, DSP_QLVL67 (0x08060004). -/
abbrev Reg.dspQlvl23 : Nat := 0x08060004
/-- DSP_QLVL01, DSP_QLVL23, DSP_QLVL45, DSP_QLVL67 (0x08060008). -/
abbrev Reg.dspQlvl45 : Nat := 0x08060008
/-- DSP_QLVL01, DSP_QLVL23, DSP_QLVL45, DSP_QLVL67 (0x0806000C). -/
abbrev Reg.dspQlvl67 : Nat := 0x0806000C
/-- First of DSP_QMAX01 to DSP_QMAX67 (0x08060010). -/
abbrev Reg.dspQmax01 : Nat := 0x08060010
/-- DSP_CTRL (0x08060020). -/
abbrev Reg.dspCtrl : Nat := 0x08060020
/-- DSP_SCRATCH (0x08060024). -/
abbrev Reg.dspScratch : Nat := 0x08060024
/-- DSP_FLAGS (0x08060028). -/
abbrev Reg.dspFlags : Nat := 0x08060028
/-- DSP_CNT0 (0x0806002C). -/
abbrev Reg.dspCnt0 : Nat := 0x0806002C
/-- DSP_CNT1 (0x08060030). -/
abbrev Reg.dspCnt1 : Nat := 0x08060030
/-- DSP_DONE_CNT (0x08060034). -/
abbrev Reg.dspDoneCnt : Nat := 0x08060034
/-- DSP_CANCEL_CNT (0x08060038). -/
abbrev Reg.dspCancelCnt : Nat := 0x08060038
/-- DSP_RD_BYTES_LO, DSP_RD_BYTES_HI (0x0806003C). -/
abbrev Reg.dspRdBytesLo : Nat := 0x0806003C
/-- DSP_RD_BYTES_LO, DSP_RD_BYTES_HI (0x08060040). -/
abbrev Reg.dspRdBytesHi : Nat := 0x08060040
/-- DSP_PF_WASTE (0x08060044). -/
abbrev Reg.dspPfWaste : Nat := 0x08060044
/-- DSP_BUSY_LO, DSP_BUSY_HI (0x08060048). -/
abbrev Reg.dspBusyLo : Nat := 0x08060048
/-- DSP_BUSY_LO, DSP_BUSY_HI (0x0806004C). -/
abbrev Reg.dspBusyHi : Nat := 0x0806004C
/-- DSP_VBUSY (0x08060050). -/
abbrev Reg.dspVbusy : Nat := 0x08060050
/-- ENG_STAT (0x08070000). -/
abbrev Reg.engStat : Nat := 0x08070000
/-- ENG_FLAGS (0x08070004). -/
abbrev Reg.engFlags : Nat := 0x08070004
/-- ENG_CNT0 (0x08070008). -/
abbrev Reg.engCnt0 : Nat := 0x08070008
/-- ENG_CNT1 (0x0807000C). -/
abbrev Reg.engCnt1 : Nat := 0x0807000C
/-- ENG_STALE_ADDR (0x08070010). -/
abbrev Reg.engStaleAddr : Nat := 0x08070010
/-- IMG_ID (0x08070014). -/
abbrev Reg.imgId : Nat := 0x08070014
/-- IMG_ADDR (0x08070018). -/
abbrev Reg.imgAddr : Nat := 0x08070018
/-- IMG_SIZE (0x0807001C). -/
abbrev Reg.imgSize : Nat := 0x0807001C
/-- IMG_INFO (0x08070020). -/
abbrev Reg.imgInfo : Nat := 0x08070020
/-- IMG_PMIN (0x08070024). -/
abbrev Reg.imgPmin : Nat := 0x08070024
/-- First of ENG_POS0 to ENG_POS4 (0x08070030). -/
abbrev Reg.engPos0 : Nat := 0x08070030
/-- First of ENG_FC0 to ENG_FC63 (0x08070100). -/
abbrev Reg.engFc0 : Nat := 0x08070100
/-- SM_CTRL (0x08070200). -/
abbrev Reg.smCtrl : Nat := 0x08070200
/-- SM_ROWS (0x08070204). -/
abbrev Reg.smRows : Nat := 0x08070204
/-- SM_ROWBYTES (0x08070208). -/
abbrev Reg.smRowbytes : Nat := 0x08070208
/-- SM_K_BASE, SM_V_BASE, SM_P_BASE (0x0807020C). -/
abbrev Reg.smKBase : Nat := 0x0807020C
/-- SM_K_BASE, SM_V_BASE, SM_P_BASE (0x08070210). -/
abbrev Reg.smVBase : Nat := 0x08070210
/-- SM_K_BASE, SM_V_BASE, SM_P_BASE (0x08070214). -/
abbrev Reg.smPBase : Nat := 0x08070214
/-- SM_SHAPE (0x08070218). -/
abbrev Reg.smShape : Nat := 0x08070218
/-- SM_STAT (0x0807021C). -/
abbrev Reg.smStat : Nat := 0x0807021C
/-- SM_FLAGS (0x08070220). -/
abbrev Reg.smFlags : Nat := 0x08070220
/-- SM_CNT0 (0x08070224). -/
abbrev Reg.smCnt0 : Nat := 0x08070224
/-- SM_CNT1 (0x08070228). -/
abbrev Reg.smCnt1 : Nat := 0x08070228
/-- PR_FLAGS (0x08070230). -/
abbrev Reg.prFlags : Nat := 0x08070230
/-- PR_CNT (0x08070234). -/
abbrev Reg.prCnt : Nat := 0x08070234
/-- PR_KEPT_LAST (0x08070238). -/
abbrev Reg.prKeptLast : Nat := 0x08070238
/-- PR_SKIP_FAR_LAST (0x0807023C). -/
abbrev Reg.prSkipFarLast : Nat := 0x0807023C
/-- PR_SKIP_WEAK_LAST (0x08070240). -/
abbrev Reg.prSkipWeakLast : Nat := 0x08070240
/-- PR_RESTORED_LAST (0x08070244). -/
abbrev Reg.prRestoredLast : Nat := 0x08070244
/-- XE_STAT (0x08080000). -/
abbrev Reg.xeStat : Nat := 0x08080000
/-- XE_FLAGS (0x08080004). -/
abbrev Reg.xeFlags : Nat := 0x08080004
/-- XE_CNT0 (0x08080008). -/
abbrev Reg.xeCnt0 : Nat := 0x08080008
/-- XE_CNT1 (0x0808000C). -/
abbrev Reg.xeCnt1 : Nat := 0x0808000C
/-- XE_CNT2 (0x08080010). -/
abbrev Reg.xeCnt2 : Nat := 0x08080010
/-- XE_DROP_TOK (0x08080014). -/
abbrev Reg.xeDropTok : Nat := 0x08080014
/-- XE_LOST_TOK (0x08080018). -/
abbrev Reg.xeLostTok : Nat := 0x08080018
/-- XE_PAIRS_TX (0x0808001C). -/
abbrev Reg.xePairsTx : Nat := 0x0808001C
/-- XE_PAIRS_RX (0x08080020). -/
abbrev Reg.xePairsRx : Nat := 0x08080020
/-- XE_LAST_DROP (0x08080024). -/
abbrev Reg.xeLastDrop : Nat := 0x08080024
/-- QS_FLAGS (0x08090000). -/
abbrev Reg.qsFlags : Nat := 0x08090000
/-- QS_CNT0 (0x08090004). -/
abbrev Reg.qsCnt0 : Nat := 0x08090004
/-- QS_CNT1 (0x08090008). -/
abbrev Reg.qsCnt1 : Nat := 0x08090008
/-- QS_SAT_ELEMS (0x0809000C). -/
abbrev Reg.qsSatElems : Nat := 0x0809000C
/-- QS_NAN_ELEMS (0x08090010). -/
abbrev Reg.qsNanElems : Nat := 0x08090010
/-- First of QS_COL_CTRL0 to QS_COL_CTRL15 (0x08090100). -/
abbrev Reg.qsColCtrl0 : Nat := 0x08090100
/-- First of QS_COL_ADDR0 to QS_COL_ADDR15 (0x08090140). -/
abbrev Reg.qsColAddr0 : Nat := 0x08090140
/-- First of QS_COL_STAT0 to QS_COL_STAT15 (0x08090180). -/
abbrev Reg.qsColStat0 : Nat := 0x08090180
/-- IMG_CTRL (0x080A0000). -/
abbrev Reg.imgCtrl : Nat := 0x080A0000
/-- IMG_EXPO_OFF (0x080A0004). -/
abbrev Reg.imgExpoOff : Nat := 0x080A0004
/-- IMG_EXPO_TIME (0x080A0008). -/
abbrev Reg.imgExpoTime : Nat := 0x080A0008
/-- IMG_STROBE (0x080A000C). -/
abbrev Reg.imgStrobe : Nat := 0x080A000C
/-- PIX_BLACK (0x080A0010). -/
abbrev Reg.pixBlack : Nat := 0x080A0010
/-- IMG_STAT (0x080A0014). -/
abbrev Reg.imgStat : Nat := 0x080A0014
/-- PIX_FLAGS (0x080A0018). -/
abbrev Reg.pixFlags : Nat := 0x080A0018
/-- PIX_CNT0 (0x080A001C). -/
abbrev Reg.pixCnt0 : Nat := 0x080A001C
/-- PIX_CNT1 (0x080A0020). -/
abbrev Reg.pixCnt1 : Nat := 0x080A0020
/-- PIX_CNT2 (0x080A0024). -/
abbrev Reg.pixCnt2 : Nat := 0x080A0024
/-- PIX_ROWERR (0x080A0028). -/
abbrev Reg.pixRowerr : Nat := 0x080A0028
/-- PIX_MISS (0x080A002C). -/
abbrev Reg.pixMiss : Nat := 0x080A002C
/-- WATCH_CTRL (0x080A0040). -/
abbrev Reg.watchCtrl : Nat := 0x080A0040
/-- WATCH_EXPO (0x080A0044). -/
abbrev Reg.watchExpo : Nat := 0x080A0044
/-- WM_PRES (0x080A0048). -/
abbrev Reg.wmPres : Nat := 0x080A0048
/-- WM_DWELL (0x080A004C). -/
abbrev Reg.wmDwell : Nat := 0x080A004C
/-- WM_GEST (0x080A0050). -/
abbrev Reg.wmGest : Nat := 0x080A0050
/-- WM_STAT (0x080A0054). -/
abbrev Reg.wmStat : Nat := 0x080A0054
/-- WM_LAST (0x080A0058). -/
abbrev Reg.wmLast : Nat := 0x080A0058
/-- WM_PROG_SRC (0x080A005C). -/
abbrev Reg.wmProgSrc : Nat := 0x080A005C
/-- WM_PROG (0x080A0060). -/
abbrev Reg.wmProg : Nat := 0x080A0060
/-- First of PIX_DEF0 to PIX_DEF511 (0x080A1000). -/
abbrev Reg.pixDef0 : Nat := 0x080A1000
/-- ADC_REF (0x080B0000). -/
abbrev Reg.adcRef : Nat := 0x080B0000
/-- ADC_STAT (0x080B0004). -/
abbrev Reg.adcStat : Nat := 0x080B0004
/-- ADC_FLAGS (0x080B0008). -/
abbrev Reg.adcFlags : Nat := 0x080B0008
/-- ADC_CNT0 (0x080B000C). -/
abbrev Reg.adcCnt0 : Nat := 0x080B000C
/-- ADC_CNT1 (0x080B0010). -/
abbrev Reg.adcCnt1 : Nat := 0x080B0010
/-- ADC_CNT2 (0x080B0014). -/
abbrev Reg.adcCnt2 : Nat := 0x080B0014
/-- ADC_CNT3 (0x080B0018). -/
abbrev Reg.adcCnt3 : Nat := 0x080B0018
/-- ADC_CNT4 (0x080B001C). -/
abbrev Reg.adcCnt4 : Nat := 0x080B001C
/-- ADC_SWTRIG (0x080B0020). -/
abbrev Reg.adcSwtrig : Nat := 0x080B0020
/-- ADC_A_DATA, ADC_B_DATA (0x080B0024). -/
abbrev Reg.adcAData : Nat := 0x080B0024
/-- ADC_A_DATA, ADC_B_DATA (0x080B0028). -/
abbrev Reg.adcBData : Nat := 0x080B0028
/-- ADC_A_REG_CTRL (0x080B0100). -/
abbrev Reg.adcARegCtrl : Nat := 0x080B0100
/-- First of ADC_A_SEQ0 to SEQ3 (0x080B0104). -/
abbrev Reg.adcASeq0 : Nat := 0x080B0104
/-- ADC_A_SCAN (0x080B0114). -/
abbrev Reg.adcAScan : Nat := 0x080B0114
/-- ADC_A_TMR (0x080B0118). -/
abbrev Reg.adcATmr : Nat := 0x080B0118
/-- ADC_A_INJ_CTRL (0x080B011C). -/
abbrev Reg.adcAInjCtrl : Nat := 0x080B011C
/-- ADC_A_INJ_SEQ (0x080B0120). -/
abbrev Reg.adcAInjSeq : Nat := 0x080B0120
/-- MV_CTRL (0x080B0200). -/
abbrev Reg.mvCtrl : Nat := 0x080B0200
/-- MV_BASE (0x080B0204). -/
abbrev Reg.mvBase : Nat := 0x080B0204
/-- MV_SHAPE (0x080B0208). -/
abbrev Reg.mvShape : Nat := 0x080B0208
/-- MV_CLOSED_TICK (0x080B020C). -/
abbrev Reg.mvClosedTick : Nat := 0x080B020C
/-- MV_CLOSED_STAT (0x080B0210). -/
abbrev Reg.mvClosedStat : Nat := 0x080B0210
/-- ADC_CROSS (0x080B0300). -/
abbrev Reg.adcCross : Nat := 0x080B0300
/-- ADC_CROSS_LAST (0x080B0304). -/
abbrev Reg.adcCrossLast : Nat := 0x080B0304
/-- ADC_CROSS_STAT (0x080B0308). -/
abbrev Reg.adcCrossStat : Nat := 0x080B0308
/-- ADC_CFLAGS (0x080B030C). -/
abbrev Reg.adcCflags : Nat := 0x080B030C
/-- ADC_CCNT (0x080B0310). -/
abbrev Reg.adcCcnt : Nat := 0x080B0310
/-- ADC_A_CAL, ADC_B_CAL (0x080B0320). -/
abbrev Reg.adcACal : Nat := 0x080B0320
/-- ADC_A_CAL, ADC_B_CAL (0x080B0324). -/
abbrev Reg.adcBCal : Nat := 0x080B0324
/-- ADC_CAL_EN (0x080B0328). -/
abbrev Reg.adcCalEn : Nat := 0x080B0328
/-- ADC_CAL_STAT (0x080B032C). -/
abbrev Reg.adcCalStat : Nat := 0x080B032C
/-- TDAC_CTRL (0x080B0330). -/
abbrev Reg.tdacCtrl : Nat := 0x080B0330
/-- First of CMP0_CTRL to CMP3_CTRL (0x080C0000). -/
abbrev Reg.cmp0Ctrl : Nat := 0x080C0000
/-- RFX_CTRL (0x080C0010). -/
abbrev Reg.rfxCtrl : Nat := 0x080C0010
/-- RFX_STAT (0x080C0014). -/
abbrev Reg.rfxStat : Nat := 0x080C0014
/-- RFX_ECHO_SRC (0x080C0018). -/
abbrev Reg.rfxEchoSrc : Nat := 0x080C0018
/-- RFX_FLAGS (0x080C001C). -/
abbrev Reg.rfxFlags : Nat := 0x080C001C
/-- RFX_CNT0 (0x080C0020). -/
abbrev Reg.rfxCnt0 : Nat := 0x080C0020
/-- RFX_CNT1 (0x080C0024). -/
abbrev Reg.rfxCnt1 : Nat := 0x080C0024
/-- RFX_CNT2 (0x080C0028). -/
abbrev Reg.rfxCnt2 : Nat := 0x080C0028
/-- RFX_LAST (0x080C002C). -/
abbrev Reg.rfxLast : Nat := 0x080C002C
/-- First of PM_GPIO_CFG0 to PM_GPIO_CFG7 (0x080D0000). -/
abbrev Reg.pmGpioCfg0 : Nat := 0x080D0000
/-- PM_GPIO_OUT (0x080D0020). -/
abbrev Reg.pmGpioOut : Nat := 0x080D0020
/-- PM_GPIO_IN (0x080D0024). -/
abbrev Reg.pmGpioIn : Nat := 0x080D0024
/-- PM_GPIO_FLAGS (0x080D0028). -/
abbrev Reg.pmGpioFlags : Nat := 0x080D0028
/-- First of PM_CNT0 to PM_CNT3 (0x080D002C). -/
abbrev Reg.pmCnt0 : Nat := 0x080D002C
/-- PM_AIN_MODE (0x080D0040). -/
abbrev Reg.pmAinMode : Nat := 0x080D0040
/-- PM_AIN_IN (0x080D0044). -/
abbrev Reg.pmAinIn : Nat := 0x080D0044
/-- PM_STRAP_PIN (0x080D0048). -/
abbrev Reg.pmStrapPin : Nat := 0x080D0048
/-- PM_SWITCH_CNT (0x080D004C). -/
abbrev Reg.pmSwitchCnt : Nat := 0x080D004C
/-- PM_DRIVE (0x080D0050). -/
abbrev Reg.pmDrive : Nat := 0x080D0050
/-- FLT_STAT (0x080E0000). -/
abbrev Reg.fltStat : Nat := 0x080E0000
/-- FLT_FLAGS (0x080E0004). -/
abbrev Reg.fltFlags : Nat := 0x080E0004
/-- FLT_CNT0 (0x080E0008). -/
abbrev Reg.fltCnt0 : Nat := 0x080E0008
/-- FLT_CNT1 (0x080E000C). -/
abbrev Reg.fltCnt1 : Nat := 0x080E000C
/-- FLT_CTRL (0x080E0010). -/
abbrev Reg.fltCtrl : Nat := 0x080E0010
/-- FLT_HALT_EN (0x080E0014). -/
abbrev Reg.fltHaltEn : Nat := 0x080E0014
/-- FLT_SUM (0x080E0018). -/
abbrev Reg.fltSum : Nat := 0x080E0018
/-- FLT_SEQ (0x080E001C). -/
abbrev Reg.fltSeq : Nat := 0x080E001C
/-- FLT_BB (0x080E0020). -/
abbrev Reg.fltBb : Nat := 0x080E0020
/-- FLT_LAST (0x080E0024). -/
abbrev Reg.fltLast : Nat := 0x080E0024
/-- FLT_ROW (0x080E0028). -/
abbrev Reg.fltRow : Nat := 0x080E0028
/-- TR_CTRL (0x080E0800). -/
abbrev Reg.trCtrl : Nat := 0x080E0800
/-- TR_UNIT (0x080E0804). -/
abbrev Reg.trUnit : Nat := 0x080E0804
/-- TR_BASE (0x080E0808). -/
abbrev Reg.trBase : Nat := 0x080E0808
/-- TR_WPTR (0x080E080C). -/
abbrev Reg.trWptr : Nat := 0x080E080C
/-- TR_FLAGS (0x080E0810). -/
abbrev Reg.trFlags : Nat := 0x080E0810
/-- TR_CNT (0x080E0814). -/
abbrev Reg.trCnt : Nat := 0x080E0814
/-- PWR_STAT (0x080F0000). -/
abbrev Reg.pwrStat : Nat := 0x080F0000
/-- PWR_RST_CAUSE (0x080F0004). -/
abbrev Reg.pwrRstCause : Nat := 0x080F0004
/-- PWR_FLAGS (0x080F0008). -/
abbrev Reg.pwrFlags : Nat := 0x080F0008
/-- PWR_CNT0 (0x080F000C). -/
abbrev Reg.pwrCnt0 : Nat := 0x080F000C
/-- PWR_CNT1 (0x080F0010). -/
abbrev Reg.pwrCnt1 : Nat := 0x080F0010
/-- PWR_FW_SEQ (0x080F0014). -/
abbrev Reg.pwrFwSeq : Nat := 0x080F0014
/-- PWR_LEVEL (0x080F0018). -/
abbrev Reg.pwrLevel : Nat := 0x080F0018
/-- PWR_BOOT_TIME (0x080F001C). -/
abbrev Reg.pwrBootTime : Nat := 0x080F001C
/-- PWR_BIST (0x080F0020). -/
abbrev Reg.pwrBist : Nat := 0x080F0020

/-- Registers of equal layout at consecutive addresses: the first address, how many, the masks of the direct RW, staged RW,
W1C, RC, WO and RO fields (Table 0-3), and the reset word. -/
structure RegRow where
  first : Nat
  count : Nat
  rw    : Nat
  st    : Nat
  w1c   : Nat
  rc    : Nat
  wo    : Nat
  ro    : Nat
  reset : Nat
  deriving DecidableEq, Repr

/-- Block 0 (Table 20-2). -/
def regsSys : List RegRow := [
  ⟨0x8000000, 1, 0, 0, 0, 0, 0, 0xFFFFFF00, 0xB400000⟩,
  ⟨0x8000004, 1, 0, 0, 0, 0, 0, 0xFFFF, 0x4142⟩,
  ⟨0x8000008, 1, 0, 0, 0, 0, 0, 0x7F0007, 0⟩,
  ⟨0x800000C, 1, 0, 0, 0, 0, 0, 0x313F, 0⟩,
  ⟨0x8000010, 2, 0, 0, 0, 0, 0, 0xFFFFFFFF, 0⟩,
  ⟨0x8000100, 1, 0, 0x800001FF, 0, 0, 0, 0, 0⟩,
  ⟨0x8000104, 3, 0, 0xFFFFFFFF, 0, 0, 0, 0, 0⟩,
  ⟨0x8000110, 1, 0, 0xFFFF, 0, 0, 0, 0, 0x1000⟩,
  ⟨0x8000114, 1, 0, 0xFFFFFFFF, 0, 0, 0, 0, 0⟩,
  ⟨0x8000118, 1, 0, 0, 0, 0, 0, 0x7, 0⟩,
  ⟨0x800011C, 1, 0, 0, 0xF, 0, 0, 0, 0⟩,
  ⟨0x8000120, 2, 0, 0, 0, 0, 0, 0xFFFFFFFF, 0⟩]

/-- Block 1 (Table 20-3). -/
def regsTick : List RegRow := [
  ⟨0x8010000, 1, 0x1, 0x1E, 0, 0, 0, 0, 0⟩,
  ⟨0x8010004, 1, 0, 0xFFFFF, 0, 0, 0, 0, 0x8235⟩,
  ⟨0x8010008, 1, 0, 0, 0, 0, 0, 0xFFFFF, 0x14E⟩,
  ⟨0x801000C, 1, 0, 0, 0, 0, 0, 0xFFFFFFFF, 0⟩,
  ⟨0x8010010, 1, 0, 0, 0, 0, 0, 0xFFFFF, 0⟩,
  ⟨0x8010014, 1, 0, 0, 0, 0, 0, 0xFFFFF, 0x8235⟩,
  ⟨0x8010018, 1, 0, 0, 0x3F, 0, 0, 0x1FF0000, 0⟩,
  ⟨0x801001C, 4, 0, 0, 0, 0, 0, 0xFFFFFFFF, 0⟩,
  ⟨0x801002C, 1, 0, 0, 0, 0, 0, 0xFFFF, 0⟩,
  ⟨0x8010030, 1, 0, 0, 0, 0, 0, 0x3FF01FF, 0⟩]

/-- Block 2 (Table 20-4). -/
def regsEnergy : List RegRow := [
  ⟨0x8020000, 1, 0, 0x1, 0, 0, 0x100, 0, 0⟩,
  ⟨0x8020004, 1, 0, 0xFFFFFF, 0, 0, 0, 0, 0x249F0⟩,
  ⟨0x8020008, 1, 0, 0xFFFFFF, 0, 0, 0, 0, 0x493E0⟩,
  ⟨0x802000C, 6, 0, 0, 0, 0, 0, 0xFFFFFFFF, 0⟩,
  ⟨0x8020024, 4, 0, 0, 0, 0, 0, 0xFFFFFF, 0⟩,
  ⟨0x8020034, 1, 0, 0, 0, 0, 0, 0x71333, 0⟩,
  ⟨0x8020038, 1, 0, 0, 0x3F, 0, 0, 0, 0⟩,
  ⟨0x802003C, 3, 0, 0, 0, 0, 0, 0xFFFFFFFF, 0⟩,
  ⟨0x8020048, 1, 0, 0xFF00FF, 0, 0, 0, 0, 0x6C005F⟩,
  ⟨0x802004C, 1, 0, 0, 0, 0, 0, 0x3FFFFF, 0⟩,
  ⟨0x8020050, 6, 0, 0, 0, 0, 0, 0x8000FFFF, 0⟩,
  ⟨0x8020068, 1, 0, 0, 0, 0, 0, 0x1003F0F, 0⟩]

/-- Block 3 (Table 20-5). -/
def regsRowlink : List RegRow := [
  ⟨0x8030000, 1, 0, 0, 0, 0, 0, 0x3F0303, 0⟩,
  ⟨0x8030004, 1, 0, 0, 0x3FF, 0, 0, 0, 0⟩,
  ⟨0x8030008, 5, 0, 0, 0, 0, 0, 0xFFFFFFFF, 0⟩,
  ⟨0x803001C, 1, 0, 0x1FF, 0, 0, 0, 0, 0x114⟩,
  ⟨0x8030020, 1, 0, 0x13F, 0, 0, 0, 0, 0⟩,
  ⟨0x8030024, 2, 0, 0xFFFFFFFF, 0, 0, 0, 0, 0⟩,
  ⟨0x803002C, 2, 0, 0, 0, 0, 0, 0xFFFFFFFF, 0⟩,
  ⟨0x8030034, 1, 0, 0, 0, 0, 0, 0xFFFF, 0⟩,
  ⟨0x8030038, 3, 0, 0, 0, 0, 0, 0xFFFFFFFF, 0⟩]

/-- Block 4 (Table 20-6). -/
def regsHostport : List RegRow := [
  ⟨0x8040000, 1, 0xFFFF, 0, 0, 0, 0, 0, 0xFA⟩,
  ⟨0x8040004, 1, 0, 0, 0, 0, 0, 0xFFFFFF, 0⟩,
  ⟨0x8040008, 1, 0, 0, 0x3FE, 0, 0, 0x1, 0⟩,
  ⟨0x804000C, 1, 0x3FF, 0, 0, 0, 0, 0, 0⟩,
  ⟨0x8040010, 6, 0, 0, 0, 0, 0, 0xFFFFFFFF, 0⟩,
  ⟨0x8040028, 1, 0, 0, 0, 0, 0, 0xFFFF, 0⟩]

/-- Block 5 (Table 20-7). -/
def regsStage : List RegRow := [
  ⟨0x8050000, 1, 0, 0, 0, 0, 0, 0x7F, 0⟩,
  ⟨0x8050004, 2, 0, 0, 0, 0, 0, 0xFFFFFFFF, 0⟩,
  ⟨0x805000C, 1, 0, 0, 0, 0, 0, 0xFFFF, 0⟩,
  ⟨0x8050010, 1, 0, 0xFFFF, 0, 0, 0, 0, 0⟩,
  ⟨0x8050014, 1, 0, 0xFFFFFFFF, 0, 0, 0, 0, 0⟩,
  ⟨0x8050018, 3, 0, 0, 0, 0, 0, 0xFFFFFFFF, 0⟩,
  ⟨0x8050024, 1, 0, 0, 0xF, 0, 0, 0, 0⟩,
  ⟨0x8050028, 4, 0, 0, 0, 0, 0, 0xFFFFFFFF, 0⟩]

/-- Block 6 (Table 20-8). -/
def regsDispatch : List RegRow := [
  ⟨0x8060000, 4, 0, 0, 0, 0, 0, 0x1FF01FF, 0⟩,
  ⟨0x8060010, 4, 0, 0, 0, 0x1FF01FF, 0, 0, 0⟩,
  ⟨0x8060020, 1, 0, 0x1, 0, 0, 0, 0, 0x1⟩,
  ⟨0x8060024, 1, 0xFF00FF, 0, 0, 0, 0, 0, 0⟩,
  ⟨0x8060028, 1, 0, 0, 0x7, 0, 0, 0, 0⟩,
  ⟨0x806002C, 1, 0, 0, 0, 0, 0, 0xFFFFFFFF, 0⟩,
  ⟨0x8060030, 1, 0, 0, 0, 0, 0, 0xFFFF, 0⟩,
  ⟨0x8060034, 7, 0, 0, 0, 0, 0, 0xFFFFFFFF, 0⟩,
  ⟨0x8060050, 1, 0, 0, 0, 0, 0, 0xFF, 0⟩]

/-- Block 7 (Table 20-9). -/
def regsEngines : List RegRow := [
  ⟨0x8070000, 1, 0, 0, 0, 0, 0, 0x11F1F, 0⟩,
  ⟨0x8070004, 1, 0, 0, 0x7, 0, 0, 0, 0⟩,
  ⟨0x8070008, 1, 0, 0, 0, 0, 0, 0xFFFFFFFF, 0⟩,
  ⟨0x807000C, 1, 0, 0, 0, 0, 0, 0xFFFF, 0⟩,
  ⟨0x8070010, 4, 0, 0, 0, 0, 0, 0xFFFFFFFF, 0⟩,
  ⟨0x8070020, 1, 0, 0, 0, 0, 0, 0x7F03FF, 0⟩,
  ⟨0x8070024, 1, 0, 0, 0, 0, 0, 0xFFFFF, 0⟩,
  ⟨0x8070030, 5, 0, 0, 0, 0, 0, 0x1FFFFFF, 0⟩,
  ⟨0x8070100, 64, 0, 0, 0, 0, 0, 0xFFFF, 0⟩,
  ⟨0x8070200, 1, 0, 0x8000003F, 0, 0, 0, 0, 0⟩,
  ⟨0x8070204, 1, 0, 0xFFFF, 0, 0, 0, 0, 0⟩,
  ⟨0x8070208, 5, 0, 0xFFFFFFFF, 0, 0, 0, 0, 0⟩,
  ⟨0x807021C, 1, 0, 0, 0, 0, 0, 0x7F003F, 0⟩,
  ⟨0x8070220, 1, 0, 0, 0x7, 0, 0, 0, 0⟩,
  ⟨0x8070224, 1, 0, 0, 0, 0, 0, 0xFFFFFFFF, 0⟩,
  ⟨0x8070228, 1, 0, 0, 0, 0, 0, 0xFFFF, 0⟩,
  ⟨0x8070230, 1, 0, 0, 0x1, 0, 0, 0, 0⟩,
  ⟨0x8070234, 1, 0, 0, 0, 0, 0, 0xFFFF, 0⟩,
  ⟨0x8070238, 4, 0, 0, 0, 0, 0, 0xFFFFFFFF, 0⟩]

/-- Block 8 (Table 20-10). -/
def regsExchange : List RegRow := [
  ⟨0x8080000, 1, 0, 0, 0, 0, 0, 0x3F0003, 0⟩,
  ⟨0x8080004, 1, 0, 0, 0x1F, 0, 0, 0, 0⟩,
  ⟨0x8080008, 2, 0, 0, 0, 0, 0, 0xFFFFFFFF, 0⟩,
  ⟨0x8080010, 1, 0, 0, 0, 0, 0, 0xFFFF, 0⟩,
  ⟨0x8080014, 5, 0, 0, 0, 0, 0, 0xFFFFFFFF, 0⟩]

/-- Block 9 (Table 20-11). -/
def regsQuant : List RegRow := [
  ⟨0x8090000, 1, 0, 0, 0xF, 0, 0, 0, 0⟩,
  ⟨0x8090004, 4, 0, 0, 0, 0, 0, 0xFFFFFFFF, 0⟩,
  ⟨0x8090100, 16, 0, 0xC7FFFFFF, 0, 0, 0, 0, 0x10001⟩,
  ⟨0x8090140, 16, 0, 0xFFFFF0, 0, 0, 0, 0, 0⟩,
  ⟨0x8090180, 16, 0, 0, 0, 0, 0, 0xFFFF, 0⟩]

/-- Block 10 (Table 20-12). -/
def regsPixel : List RegRow := [
  ⟨0x80A0000, 1, 0, 0x333, 0, 0, 0, 0, 0⟩,
  ⟨0x80A0004, 1, 0, 0xFFFFF, 0, 0, 0, 0, 0xC8⟩,
  ⟨0x80A0008, 1, 0, 0xFFFFF, 0, 0, 0, 0, 0x3E8⟩,
  ⟨0x80A000C, 1, 0, 0xFFFFFFFF, 0, 0, 0, 0, 0⟩,
  ⟨0x80A0010, 1, 0, 0x3FF, 0, 0, 0, 0, 0x40⟩,
  ⟨0x80A0014, 1, 0, 0, 0, 0, 0, 0x3, 0⟩,
  ⟨0x80A0018, 1, 0, 0, 0x1F, 0, 0, 0, 0⟩,
  ⟨0x80A001C, 2, 0, 0, 0, 0, 0, 0xFFFFFFFF, 0⟩,
  ⟨0x80A0024, 1, 0, 0, 0, 0, 0, 0xFFFF, 0⟩,
  ⟨0x80A0028, 1, 0, 0, 0, 0, 0, 0xFFFFFFFF, 0⟩,
  ⟨0x80A002C, 1, 0, 0, 0, 0, 0, 0xFFFF000F, 0⟩,
  ⟨0x80A0040, 1, 0, 0x10FFFFF, 0, 0, 0, 0, 0xC806⟩,
  ⟨0x80A0044, 1, 0, 0xFFFFFFFF, 0, 0, 0, 0, 0xC80FA0⟩,
  ⟨0x80A0048, 1, 0, 0xFFFFFFFF, 0, 0, 0, 0, 0x1900258⟩,
  ⟨0x80A004C, 1, 0, 0xFFFF, 0, 0, 0, 0, 0x503⟩,
  ⟨0x80A0050, 1, 0, 0xFFFFFF, 0, 0, 0, 0, 0xA0258⟩,
  ⟨0x80A0054, 1, 0, 0, 0, 0, 0, 0x10003, 0⟩,
  ⟨0x80A0058, 1, 0, 0, 0, 0, 0, 0xFFFFFF, 0⟩,
  ⟨0x80A005C, 1, 0xFFFFFFFF, 0, 0, 0, 0, 0, 0⟩,
  ⟨0x80A0060, 1, 0, 0, 0, 0, 0x1, 0, 0⟩,
  ⟨0x80A1000, 512, 0, 0x83FF03FF, 0, 0, 0, 0, 0⟩]

/-- Block 11 (Table 20-13). -/
def regsAdc : List RegRow := [
  ⟨0x80B0000, 1, 0, 0x3, 0, 0, 0, 0, 0⟩,
  ⟨0x80B0004, 1, 0, 0, 0, 0, 0, 0x1000707, 0⟩,
  ⟨0x80B0008, 1, 0, 0, 0x1FF, 0, 0, 0, 0⟩,
  ⟨0x80B000C, 4, 0, 0, 0, 0, 0, 0xFFFFFFFF, 0⟩,
  ⟨0x80B001C, 1, 0, 0, 0, 0, 0, 0xFFFF, 0⟩,
  ⟨0x80B0020, 1, 0, 0, 0, 0, 0x303, 0, 0⟩,
  ⟨0x80B0024, 2, 0, 0, 0, 0x80000000, 0, 0x1FFFFFFF, 0⟩,
  ⟨0x80B0100, 1, 0, 0xF80F0300, 0, 0, 0, 0, 0⟩,
  ⟨0x80B0104, 4, 0, 0x7F7F7F7F, 0, 0, 0, 0, 0⟩,
  ⟨0x80B0114, 1, 0, 0x7FFFFF, 0, 0, 0, 0, 0⟩,
  ⟨0x80B0118, 1, 0, 0xFFFFF, 0, 0, 0, 0, 0⟩,
  ⟨0x80B011C, 1, 0, 0x8007000F, 0, 0, 0, 0, 0⟩,
  ⟨0x80B0120, 1, 0, 0x7F7F7F7F, 0, 0, 0, 0, 0⟩,
  ⟨0x80B0140, 1, 0, 0xF80F0300, 0, 0, 0, 0, 0⟩,
  ⟨0x80B0144, 4, 0, 0x7F7F7F7F, 0, 0, 0, 0, 0⟩,
  ⟨0x80B0154, 1, 0, 0x7FFFFF, 0, 0, 0, 0, 0⟩,
  ⟨0x80B0158, 1, 0, 0xFFFFF, 0, 0, 0, 0, 0⟩,
  ⟨0x80B015C, 1, 0, 0x8007000F, 0, 0, 0, 0, 0⟩,
  ⟨0x80B0160, 1, 0, 0x7F7F7F7F, 0, 0, 0, 0, 0⟩,
  ⟨0x80B0200, 1, 0, 0x3, 0, 0, 0, 0, 0⟩,
  ⟨0x80B0204, 1, 0, 0xFFFFFFF0, 0, 0, 0, 0, 0⟩,
  ⟨0x80B0208, 1, 0, 0xFFFFFFFC, 0, 0, 0, 0, 0⟩,
  ⟨0x80B020C, 1, 0, 0, 0, 0, 0, 0xFFFFFFFF, 0⟩,
  ⟨0x80B0210, 1, 0, 0, 0, 0, 0, 0x307FF, 0⟩,
  ⟨0x80B0300, 1, 0, 0xC01F0FFF, 0, 0, 0, 0, 0xF0018⟩,
  ⟨0x80B0304, 1, 0, 0, 0, 0, 0, 0xFFF0FFF, 0⟩,
  ⟨0x80B0308, 1, 0, 0, 0, 0, 0, 0xFFFFFFF3, 0x3⟩,
  ⟨0x80B030C, 1, 0, 0, 0x3, 0, 0, 0, 0⟩,
  ⟨0x80B0310, 1, 0, 0, 0, 0, 0, 0xFFFFFFFF, 0⟩,
  ⟨0x80B0320, 2, 0, 0xFFFFFFFF, 0, 0, 0, 0, 0x4000⟩,
  ⟨0x80B0328, 1, 0, 0x3, 0, 0, 0, 0, 0⟩,
  ⟨0x80B032C, 1, 0, 0, 0, 0, 0, 0x30F, 0⟩,
  ⟨0x80B0330, 1, 0xFF, 0xC00F0000, 0, 0, 0, 0, 0⟩]

/-- Block 12 (Table 20-14). -/
def regsReflex : List RegRow := [
  ⟨0x80C0000, 4, 0, 0xFF0FFFFF, 0, 0, 0, 0, 0⟩,
  ⟨0x80C0010, 1, 0, 0x1, 0, 0, 0, 0, 0x1⟩,
  ⟨0x80C0014, 1, 0, 0, 0, 0, 0, 0x1110F0F, 0⟩,
  ⟨0x80C0018, 1, 0, 0, 0, 0, 0, 0xFFFFFFFF, 0⟩,
  ⟨0x80C001C, 1, 0, 0, 0x3F, 0, 0, 0, 0⟩,
  ⟨0x80C0020, 3, 0, 0, 0, 0, 0, 0xFFFFFFFF, 0⟩,
  ⟨0x80C002C, 1, 0, 0, 0, 0, 0, 0x3F010FFF, 0⟩]

/-- Block 13 (Table 20-15). -/
def regsPinmux : List RegRow := [
  ⟨0x80D0000, 8, 0, 0x3F1F, 0, 0, 0, 0, 0x100⟩,
  ⟨0x80D0020, 1, 0xFF, 0, 0, 0, 0, 0, 0⟩,
  ⟨0x80D0024, 1, 0, 0, 0, 0, 0, 0xFF, 0⟩,
  ⟨0x80D0028, 1, 0, 0, 0xFF, 0, 0, 0, 0⟩,
  ⟨0x80D002C, 4, 0, 0, 0, 0, 0, 0xFFFFFFFF, 0⟩,
  ⟨0x80D0040, 1, 0, 0xFFFF, 0, 0, 0, 0, 0xFFFF⟩,
  ⟨0x80D0044, 1, 0, 0, 0, 0, 0, 0xFFFF, 0⟩,
  ⟨0x80D0048, 1, 0, 0, 0, 0, 0, 0x7, 0⟩,
  ⟨0x80D004C, 1, 0, 0, 0, 0, 0, 0xFFFF, 0⟩,
  ⟨0x80D0050, 1, 0, 0x3333, 0, 0, 0, 0, 0x1311⟩]

/-- Block 14 (Table 20-16). -/
def regsFault : List RegRow := [
  ⟨0x80E0000, 1, 0, 0, 0, 0, 0, 0xB00001FF, 0⟩,
  ⟨0x80E0004, 1, 0, 0, 0x3, 0, 0, 0, 0⟩,
  ⟨0x80E0008, 1, 0, 0, 0, 0, 0, 0xFFFFFFFF, 0⟩,
  ⟨0x80E000C, 1, 0, 0, 0, 0, 0, 0xFFFF, 0⟩,
  ⟨0x80E0010, 1, 0, 0x33, 0, 0, 0x80000000, 0, 0x22⟩,
  ⟨0x80E0014, 1, 0, 0xFFFF, 0, 0, 0, 0, 0x8⟩,
  ⟨0x80E0018, 1, 0, 0, 0, 0, 0, 0xFFFF, 0⟩,
  ⟨0x80E001C, 1, 0, 0, 0, 0, 0, 0xFFFF, 0x1⟩,
  ⟨0x80E0020, 1, 0, 0, 0, 0, 0, 0xFFFF0FFF, 0⟩,
  ⟨0x80E0024, 1, 0, 0, 0, 0, 0, 0x3FFFF, 0⟩,
  ⟨0x80E0028, 1, 0, 0, 0, 0xFFFFFFFF, 0, 0, 0⟩,
  ⟨0x80E0800, 1, 0x1FFFFF01, 0, 0, 0, 0, 0, 0x1FFFFF00⟩,
  ⟨0x80E0804, 1, 0xFF00FF, 0, 0, 0, 0, 0, 0xFF0000⟩,
  ⟨0x80E0808, 1, 0xFFFC0000, 0, 0, 0, 0, 0, 0xFC0000⟩,
  ⟨0x80E080C, 1, 0, 0, 0, 0, 0, 0x3FFFF, 0⟩,
  ⟨0x80E0810, 1, 0, 0, 0x3, 0, 0, 0, 0⟩,
  ⟨0x80E0814, 1, 0, 0, 0, 0, 0, 0xFFFFFFFF, 0⟩]

/-- Block 15 (Table 20-17). -/
def regsPower : List RegRow := [
  ⟨0x80F0000, 1, 0, 0, 0, 0, 0, 0xCF010F, 0⟩,
  ⟨0x80F0004, 1, 0, 0, 0, 0, 0, 0xFF, 0⟩,
  ⟨0x80F0008, 1, 0, 0, 0x7, 0, 0, 0, 0⟩,
  ⟨0x80F000C, 1, 0, 0, 0, 0, 0, 0xFFFFFFFF, 0⟩,
  ⟨0x80F0010, 1, 0, 0, 0, 0, 0, 0xFFFF, 0⟩,
  ⟨0x80F0014, 1, 0, 0, 0, 0, 0, 0xFFFFFFFF, 0⟩,
  ⟨0x80F0018, 1, 0, 0x1, 0, 0, 0, 0, 0⟩,
  ⟨0x80F001C, 1, 0, 0, 0, 0, 0, 0xFFFFFF, 0⟩,
  ⟨0x80F0020, 1, 0, 0, 0, 0, 0, 0xFF, 0⟩]

/-- Every register of the node (R736). -/
def regTable : List RegRow :=
  regsSys ++ regsTick ++ regsEnergy ++ regsRowlink ++ regsHostport ++ regsStage ++ regsDispatch ++ regsEngines ++ regsExchange ++ regsQuant ++ regsPixel ++ regsAdc ++ regsReflex ++ regsPinmux ++ regsFault ++ regsPower
/-- The row that holds an address, when a register occupies it. -/
def regRow? (a : Nat) : Option RegRow :=
  regTable.find? fun r => r.first ≤ a && a < r.first + 4 * r.count && (a - r.first) % 4 == 0

/-- Reset word of an address; 0 where no register stands (R214). -/
def resetWord (a : Nat) : Word :=
  match regRow? a with
  | some r => BitVec.ofNat 32 r.reset
  | none => 0

/-- Bits of an address that a read can return: every field but the WO ones (R8, R10). -/
def heldMask (a : Nat) : Word :=
  match regRow? a with
  | some r => BitVec.ofNat 32 (r.rw ||| r.st ||| r.w1c ||| r.rc ||| r.ro)
  | none => 0

/-- Bits of staged-class fields (R15, R236). -/
def stagedMask (a : Nat) : Word :=
  match regRow? a with
  | some r => BitVec.ofNat 32 r.st
  | none => 0

/-- Bits of direct RW fields (R14). -/
def directMask (a : Nat) : Word :=
  match regRow? a with
  | some r => BitVec.ofNat 32 r.rw
  | none => 0

/-- Bits of W1C fields (R8). -/
def w1cMask (a : Nat) : Word :=
  match regRow? a with
  | some r => BitVec.ofNat 32 r.w1c
  | none => 0

/-- Addresses of the registers that hold a staged-class field, ascending (R264). -/
def stagedAddrs : List Nat :=
  regTable.flatMap fun r => if r.st = 0 then [] else (List.range r.count).map fun i => r.first + 4 * i

/-- Addresses of the registers that hold a W1C field, ascending (R683). -/
def flagAddrs : List Nat :=
  regTable.flatMap fun r => if r.w1c = 0 then [] else (List.range r.count).map fun i => r.first + 4 * i

/-- A field of a word: bits hi down to lo. -/
def bits (w : Word) (hi lo : Nat) : Nat := w.toNat / 2 ^ lo % 2 ^ (hi + 1 - lo)

/-- One bit of a word. -/
def bit (w : Word) (n : Nat) : Bool := w.toNat.testBit n

/-- A word with a value placed in bits hi down to lo. -/
def place (v hi lo : Nat) : Word := BitVec.ofNat 32 (v % 2 ^ (hi + 1 - lo) * 2 ^ lo)

/-- A word with one bit set when a condition holds. -/
def placeBit (b : Bool) (n : Nat) : Word := if b then BitVec.ofNat 32 (2 ^ n) else 0

/-- The masked write of R216. -/
def masked (old mask value : Word) : Word := (old &&& ~~~mask) ||| (value &&& mask)

end Sys2Proof.Machine
end

