-- ==== Sys2Proof/Machine/Ops.lean ====
section
/-! DEFINITION. The named operations over registers and memory, and the programs that commands are written in: a program is
a tree of the few primitive changes that a state knows, so what any command can do to registers, memory, fuses and queue is
said once, by Prog.run. -/

namespace Sys2Proof.Machine

/-- The entry of a key in an ascending list of pairs; a key not listed holds d key. -/
def AMap.get {β : Type} (d : Nat → β) : List (Nat × β) → Nat → β
  | [], k => d k
  | (k', v) :: t, k => if k = k' then v else AMap.get d t k

/-- An ascending list of pairs with one key set: a value equal to d key is not listed. -/
def AMap.put {β : Type} [DecidableEq β] (d : Nat → β) : List (Nat × β) → Nat → β → List (Nat × β)
  | [], k, v => if v = d k then [] else [(k, v)]
  | (k', v') :: t, k, v =>
    if k < k' then (if v = d k then (k', v') :: t else (k, v) :: (k', v') :: t)
    else if k = k' then (if v = d k then t else (k, v) :: t)
    else (k', v') :: AMap.put d t k v

/-- The canonical form: keys strictly rising from a bound, and no entry equal to what an unlisted key holds. -/
def AMap.canonFrom {β : Type} [DecidableEq β] (d : Nat → β) : Nat → List (Nat × β) → Bool
  | _, [] => true
  | lo, (k, v) :: t => decide (lo ≤ k) && decide (v ≠ d k) && AMap.canonFrom d (k + 1) t

/-- What an unlisted byte of memory reads as. DESIGN CHOICE, unsafe, log entry 5. -/
def Memory.unlisted (_ : Nat) : Byte := 0

/-- The canonical form of memory. -/
def Memory.wf (m : List Host.Cell) : Bool := AMap.canonFrom Memory.unlisted 0 m

/-- One byte of memory. -/
def Memory.read (m : List Host.Cell) (a : Nat) : Byte := AMap.get Memory.unlisted m a

/-- The memory ranges of Table 0-4. -/
inductive Region where
  | shared
  | local
  | mram
  | dram
  deriving DecidableEq, Repr

/-- The memory range of an address (Table 0-4). -/
def regionOf (a : Nat) : Option Region :=
  if a < 0x01000000 then some .shared
  else if a < 0x02000000 then some .local
  else if 0x04000000 ≤ a && a < 0x04800000 then some .mram
  else if 0x10000000 ≤ a && a < 0x18000000 then some .dram
  else none

/-- A write of one byte; an address outside the memory ranges takes none. -/
def Memory.write (m : List Host.Cell) (a : Nat) (v : Byte) : List Host.Cell :=
  if (regionOf a).isSome then AMap.put Memory.unlisted m a v else m

/-- A write of bytes at consecutive addresses, lowest first. -/
def Memory.writeAll (m : List Host.Cell) : Nat → List Byte → List Host.Cell
  | _, [] => m
  | a, v :: t => Memory.writeAll (Memory.write m a v) (a + 1) t

/-- Memory after the bytes from lo up to but not including hi have lost their contents. -/
def Memory.lose (m : List Host.Cell) (lo hi : Nat) : List Host.Cell :=
  m.filter fun c => decide (c.1 < lo) || decide (hi ≤ c.1)

/-- Whether bytes a to a + n - 1 lie in one memory range (R213). -/
def inOneRange (a n : Nat) : Bool :=
  match regionOf a with
  | none => false
  | some r => n = 0 || regionOf (a + n - 1) = some r

/-- Whether n bytes from an address lie inside the ranges of Table 0-4 (R16). The gaps between ranges are longer than any transfer. -/
def inMap (a n : Nat) : Bool := n = 0 || ((regionOf a).isSome && (regionOf (a + n - 1)).isSome)

/-- A register's stored word. -/
def State.stored (s : State) (a : Nat) : Word := AMap.get resetWord s.regs a

/-- A field of a register's stored word. -/
def State.fld (s : State) (a hi lo : Nat) : Nat := bits (s.stored a) hi lo

/-- One bit of a register's stored word. -/
def State.flag (s : State) (a n : Nat) : Bool := bit (s.stored a) n

/-- One byte as a unit of the node reads it. An address outside the ranges of Table 0-4 holds none, and what a read of it gives is
free (R16; log entry 92). -/
def State.rd8 (s : State) (a : Nat) : Byte := if (regionOf a).isSome then Memory.read s.mem a else Config.noByte s.now a

/-- n bytes of memory, lowest address first. -/
def State.rdBytes (s : State) (a n : Nat) : List Byte := (List.range n).map fun i => s.rd8 (a + i)

/-- Bytes as a little-endian number (R6). -/
def leNat : List Byte → Nat
  | [] => 0
  | b :: t => b.toNat + 256 * leNat t

/-- A number as n little-endian bytes (R6). -/
def leBytes : Nat → Nat → List Byte
  | 0, _ => []
  | n + 1, v => BitVec.ofNat 8 v :: leBytes n (v / 256)

/-- A word as four bytes. -/
def wordBytes (w : Word) : List Byte := leBytes 4 w.toNat

/-- A little-endian 16-bit value in memory. -/
def State.rd16 (s : State) (a : Nat) : Nat := leNat (s.rdBytes a 2)

/-- A little-endian 32-bit word in memory. -/
def State.rd32 (s : State) (a : Nat) : Word := BitVec.ofNat 32 (leNat (s.rdBytes a 4))

/-- A program: the changes a command makes, in order. Later parts may look at the state that earlier parts left. -/
inductive Prog where
  | skip
  | seq (p q : Prog)
  /-- Change the units of the node. -/
  | units (f : Units → Units)
  /-- Set a register's stored word; only its readable fields hold bits (R10). -/
  | reg (a : Nat) (v : Word)
  /-- Store bytes. -/
  | mem (a : Nat) (bs : List Byte)
  /-- Lose the contents of memory from one address up to another. -/
  | lose (lo hi : Nat)
  /-- Draw one free value. -/
  | draw
  /-- Note an event of the present cycle. -/
  | note (f : Cycle → Cycle)
  /-- Look at the state. -/
  | look (k : State → Prog)

/-- What a program does to a state. -/
def Prog.run : Prog → State → State
  | .skip, s => s
  | .seq p q, s => q.run (p.run s)
  | .units f, s => { s with units := f s.units }
  | .reg a v, s => { s with regs := AMap.put resetWord s.regs a (v &&& heldMask a) }
  | .mem a bs, s => { s with mem := Memory.writeAll s.mem a bs }
  | .lose lo hi, s => { s with mem := Memory.lose s.mem lo hi }
  | .draw, s => { s with free := s.free + 1 }
  | .note f, s => { s with cycle := f s.cycle }
  | .look k, s => (k s).run s

/-- Programs one after another. -/
def Prog.all : List Prog → Prog
  | [] => .skip
  | p :: t => .seq p (Prog.all t)

/-- A program when a condition holds. -/
def Prog.when (b : Bool) (p : Prog) : Prog := if b then p else .skip

/-- A program for each element of a list, in order. -/
def Prog.each {α : Type} (l : List α) (f : α → Prog) : Prog := Prog.all (l.map f)

/-- A program n times. -/
def Prog.times : Nat → Prog → Prog
  | 0, _ => .skip
  | n + 1, p => .seq p (Prog.times n p)

/-- Change the power block. -/
def modPwr (f : Pwr → Pwr) : Prog := .units fun u => { u with pwr := f u.pwr }
/-- Change the tick block. -/
def modTick (f : Tick → Tick) : Prog := .units fun u => { u with tick := f u.tick }
/-- Change the staging block. -/
def modStg (f : Stg → Stg) : Prog := .units fun u => { u with stg := f u.stg }
/-- Change the host port. -/
def modHp (f : Hp → Hp) : Prog := .units fun u => { u with hp := f u.hp }
/-- Change the Row Link. -/
def modLink (f : Link → Link) : Prog := .units fun u => { u with link := f u.link }
/-- Change the energy and thermal block. -/
def modEn (f : En → En) : Prog := .units fun u => { u with en := f u.en }
/-- Change the engines. -/
def modEng (f : Eng → Eng) : Prog := .units fun u => { u with eng := f u.eng }
/-- Change the Dispatcher. -/
def modDsp (f : Dsp → Dsp) : Prog := .units fun u => { u with dsp := f u.dsp }
/-- Change the Exchange Engine. -/
def modXe (f : Xe → Xe) : Prog := .units fun u => { u with xe := f u.xe }
/-- Change the collectors and Pruner counts. -/
def modQs (f : Qs → Qs) : Prog := .units fun u => { u with qs := f u.qs }
/-- Change scene memory. -/
def modSm (f : Sm → Sm) : Prog := .units fun u => { u with sm := f u.sm }
/-- Change the result pages. -/
def modRes (f : Res → Res) : Prog := .units fun u => { u with res := f u.res }
/-- Change the imager. -/
def modImg (f : Img → Img) : Prog := .units fun u => { u with img := f u.img }
/-- Change the standing model. -/
def modWm (f : Wm → Wm) : Prog := .units fun u => { u with wm := f u.wm }
/-- Change the converters and the mover. -/
def modAdc (f : Adc → Adc) : Prog := .units fun u => { u with adc := f u.adc }
/-- Change the reflex. -/
def modRfx (f : Rfx → Rfx) : Prog := .units fun u => { u with rfx := f u.rfx }
/-- Change the pins. -/
def modPins (f : Pins → Pins) : Prog := .units fun u => { u with pins := f u.pins }
/-- Change the fault log. -/
def modFlt (f : Flt → Flt) : Prog := .units fun u => { u with flt := f u.flt }
/-- Change the trace buffer. -/
def modTrace (f : Trace → Trace) : Prog := .units fun u => { u with trace := f u.trace }

/-- Change some bits of a register's stored word. -/
def setFld (a hi lo : Nat) (v : Nat) : Prog :=
  .look fun s => .reg a (masked (s.stored a) (place (2 ^ (hi + 1 - lo) - 1) hi lo) (place v hi lo))

/-- A count's note with one more amount: the amounts of one cycle add up. -/
def noteCount (c : CountNote) : List CountNote → List CountNote
  | [] => [c]
  | d :: t => if d.reg = c.reg ∧ d.lo = c.lo then { d with n := d.n + c.n } :: t else d :: noteCount c t

/-- Add to a saturating field of a register. The addition belongs to the present cycle (R682). -/
def addSat (a hi lo : Nat) (n : Nat) : Prog :=
  .seq (.look fun s => setFld a hi lo (min (s.fld a hi lo + n) (2 ^ (hi + 1 - lo) - 1)))
    (.note fun c => { c with counts := noteCount ⟨a, hi, lo, n⟩ c.counts })

/-- The word of a register in a list of noted bits. -/
def notedBits (l : List (Nat × Word)) (a : Nat) : Word := ((l.find? fun e => e.1 == a).map fun e => e.2).getD 0

/-- Note bits of a register. -/
def noteBits (a : Nat) (w : Word) : List (Nat × Word) → List (Nat × Word)
  | [] => [(a, w)]
  | (b, x) :: t => if b = a then (b, x ||| w) :: t else (b, x) :: noteBits a w t

/-- The note of an RC register in the present cycle. -/
def State.rcNote (s : State) (a : Nat) : Option RcNote := s.cycle.rc.find? fun r => r.reg == a

/-- Replace the note of an RC register. -/
def putRc (r : RcNote) (l : List RcNote) : List RcNote := (l.filter fun x => x.reg != r.reg) ++ [r]

/-- An RC field records an event: `join` joins it to a word of its register (R12). -/
def recordRc (a : Nat) (join : Word → Word) : Prog :=
  .look fun s =>
    let old := (s.rcNote a).getD { reg := a, before := s.stored a, events := 0 }
    .seq (.reg a (join (s.stored a)))
      (.note fun c => { c with rc := putRc { old with events := join old.events } c.rc })

/-- Add to a wrapping 32-bit register. -/
def addWrap (a : Nat) (n : Nat) : Prog := .look fun s => .reg a (s.stored a + BitVec.ofNat 32 n)

/-- Store a word, little-endian. -/
def store32 (a : Nat) (w : Word) : Prog := .mem a (wordBytes w)

/-- Store bytes as a unit of the node does: MRAM takes none of them, since only firmware writes it (R261). -/
def unitStore (a : Nat) (bs : List Byte) : Prog :=
  if a + bs.length ≤ 0x04000000 ∨ 0x04800000 ≤ a then .mem a bs
  else Prog.each (List.range bs.length) fun i => Prog.when (regionOf (a + i) != some .mram) (.mem (a + i) [bs.getD i 0])

/-- The outcome of a command whose program cannot stop. -/
def Prog.next (p : Prog) (s : State) : Host.Outcome State Fault Refusal := .next (p.run s)

/-- The MRAM regions of Table 6-2. -/
abbrev Mram.slotA : Nat := 0x04000000
abbrev Mram.slotB : Nat := 0x04100000
abbrev Mram.copyA : Nat := 0x04200000
abbrev Mram.copyB : Nat := 0x04210000
abbrev Mram.blackBox : Nat := 0x04220000
abbrev Mram.model : Nat := 0x04230000

/-- The four cores that run in WATCH: the lowest-numbered working cores of MC0 to MC31 (R362). -/
def watchCores (ok : BitVec 64) : List Nat := ((List.range 32).filter fun n => ok.getLsbD n).take 4

/-- Whether a byte is powered at the present level (Table 1-1, R115, R220). Cores are powered by level and BIST. -/
def State.powered (s : State) (a : Nat) : Bool :=
  match regionOf a with
  | none => false
  | some .mram => true
  | some .shared => s.pwr.level != .keep
  | some .dram => s.pwr.level == .run
  | some .local =>
    let n := (a - 0x01000000) / 0x40000
    match s.pwr.level with
    | .keep => false
    | .watch => decide (n ∈ watchCores s.pwr.coreOk)
    | .run => s.pwr.coreOk.getLsbD n

/-- Whether every byte of a transfer is powered. Local SRAM is judged core by core. -/
def State.poweredAll (s : State) (a n : Nat) : Bool :=
  match regionOf a with
  | some .local => n = 0 || (List.range ((a + n - 1) / 0x40000 + 1 - a / 0x40000)).all fun i => s.powered (max a ((a / 0x40000 + i) * 0x40000))
  | _ => s.powered a

/-- CRC-32 of IEEE 802.3, one byte at a time (R141). -/
def crc32Step (c : BitVec 32) (b : Byte) : BitVec 32 :=
  (List.range 8).foldl (fun c _ => if c.getLsbD 0 then (c >>> 1) ^^^ 0xEDB88320#32 else c >>> 1) (c ^^^ b.setWidth 32)

/-- CRC-32 over bytes (R141). -/
def crc32 (bs : List Byte) : Word := ~~~(bs.foldl crc32Step 0xFFFFFFFF#32)

/-- CRC-16/CCITT-FALSE, one byte at a time (R210). -/
def crc16Step (c : BitVec 16) (b : Byte) : BitVec 16 :=
  (List.range 8).foldl (fun c _ => if c.getLsbD 15 then (c <<< 1) ^^^ 0x1021#16 else c <<< 1) (c ^^^ (b.setWidth 16 <<< 8))

/-- CRC-16 over bytes (R210). -/
def crc16 (bs : List Byte) : BitVec 16 := bs.foldl crc16Step 0xFFFF#16

/-- Ceiling of a quotient. -/
def ceilDiv (a b : Nat) : Nat := (a + b - 1) / b

/-- Round a quotient of naturals to the nearest, ties up (R406). -/
def roundDiv (a b : Nat) : Nat := (2 * a + b) / (2 * b)

/-- Round a quotient of an integer to the nearest, ties away from zero (R406). -/
def roundDivInt (a : Int) (b : Nat) : Int := if 0 ≤ a then Int.ofNat (roundDiv a.toNat b) else -Int.ofNat (roundDiv (-a).toNat b)

/-- A value of n bits in two's complement as an integer (R7). -/
def signed (n v : Nat) : Int := if v % 2 ^ n < 2 ^ (n - 1) then Int.ofNat (v % 2 ^ n) else Int.ofNat (v % 2 ^ n) - 2 ^ n

/-- An integer as n bits in two's complement. -/
def unsigned (n : Nat) (v : Int) : Nat := (v % (2 ^ n : Int)).toNat

/-- Live period P in µs (R45). -/
def State.period (s : State) : Nat := s.fld Reg.tickPeriod 19 0

/-- Guard length for a period (R53). -/
def guardOf (p : Nat) : Nat := max 100 (ceilDiv p 100)

/-- Whether the node runs in FREE_RUN (R65). -/
def State.freeRun (s : State) : Bool := s.flag Reg.tickCtrl 1

/-- TICK_OFFSET in µs (R748). -/
def State.offset (s : State) : Nat :=
  match s.tick.edgeAt with
  | none => 0
  | some t => min ((s.now - t) / 1000) 0xFFFFF

/-- The stamp of a shape word written now (R337). -/
def State.stamp (s : State) (extent : Nat) : Word := place (s.tick.num.toNat % 65536) 31 16 ||| place extent 15 0

/-- Write a stamped shape word (R337). -/
def writeShape (a extent : Nat) : Prog := .look fun s => unitStore a (wordBytes (s.stamp extent))

end Sys2Proof.Machine
end

