-- ==== Sys2Proof/Machine/Flags.lean ====
section
/-! DEFINITION. The W1C flags of the node with their counters, fault conditions, and the outputs that follow from state:
HALT_N and IRQ_N. -/

namespace Sys2Proof.Machine

/-- The W1C status flags of the node (R13). -/
inductive Flag where
  | tickOverrun | tickLost | tickEarly | slotLate | rowTickMiss | slotSkip | pixBrown | fwFallback | bistFail
  | enumOverflow | positionMismatch | upDown | dnDown | pairDrop | lateDiscard | linkGiveup | misroute | rowChange
  | addrChanged | irqResult | irqEvent | irqHalt | irqFault | irqPresence | irqGesture | irqTimeout | irqLateReply
  | irqFrameErr | storeFail | recallSkip | bootReject | committed | energyShort | debt | exactOver | sensorFault
  | thermChatter | thermCrit | staleShape | shapeClamp | syncTmo | qfull | cancelled | scratchWait | traceWrap | traceDrop
  | nanSeen | qSat | accSat | collTrunc | capDrop | contribLost | binFull | segMissing | tagBad | smBad | smSkip | smWait
  | kminHit | reportAbort | stateMissing | lateState | resBad | frameMiss | graftErr | watchBad | watchOvr | wmBad | ovrA
  | ovrB | regDropA | regDropB | injDropA | injDropB | refLoss | pageFull | crossSkip | crossFail | calRej | trip0 | trip1
  | trip2 | trip3 | latched | haltRx | logOvf | bbFail | edge0 | edge1 | edge2 | edge3 | edge4 | edge5 | edge6 | edge7
  deriving DecidableEq, Repr

/-- Where a flag lies: its register and bit, and the register and lowest bit of its event counter (the register tables). -/
def Flag.site : Flag → Nat × Nat × Nat × Nat
  | .tickOverrun => (Reg.tickStat, 0, Reg.tickCnt0, 0)
  | .tickLost => (Reg.tickStat, 1, Reg.tickCnt0, 16)
  | .tickEarly => (Reg.tickStat, 2, Reg.tickCnt1, 0)
  | .slotLate => (Reg.tickStat, 3, Reg.tickCnt1, 16)
  | .rowTickMiss => (Reg.tickStat, 4, Reg.tickCnt2, 0)
  | .slotSkip => (Reg.tickStat, 5, Reg.tickCnt2, 16)
  | .pixBrown => (Reg.pwrFlags, 0, Reg.pwrCnt0, 0)
  | .fwFallback => (Reg.pwrFlags, 1, Reg.pwrCnt0, 16)
  | .bistFail => (Reg.pwrFlags, 2, Reg.pwrCnt1, 0)
  | .enumOverflow => (Reg.rlFlags, 0, Reg.rlCnt0, 0)
  | .positionMismatch => (Reg.rlFlags, 1, Reg.rlCnt0, 16)
  | .upDown => (Reg.rlFlags, 2, Reg.rlCnt1, 0)
  | .dnDown => (Reg.rlFlags, 3, Reg.rlCnt1, 16)
  | .pairDrop => (Reg.rlFlags, 4, Reg.rlCnt2, 0)
  | .lateDiscard => (Reg.rlFlags, 5, Reg.rlCnt2, 16)
  | .linkGiveup => (Reg.rlFlags, 6, Reg.rlCnt3, 0)
  | .misroute => (Reg.rlFlags, 7, Reg.rlCnt3, 16)
  | .rowChange => (Reg.rlFlags, 8, Reg.rlCnt4, 0)
  | .addrChanged => (Reg.rlFlags, 9, Reg.rlCnt4, 16)
  | .irqResult => (Reg.hpIrqStat, 1, Reg.hpCnt0, 0)
  | .irqEvent => (Reg.hpIrqStat, 2, Reg.hpCnt0, 16)
  | .irqHalt => (Reg.hpIrqStat, 3, Reg.hpCnt1, 0)
  | .irqFault => (Reg.hpIrqStat, 4, Reg.hpCnt1, 16)
  | .irqPresence => (Reg.hpIrqStat, 5, Reg.hpCnt2, 0)
  | .irqGesture => (Reg.hpIrqStat, 6, Reg.hpCnt2, 16)
  | .irqTimeout => (Reg.hpIrqStat, 7, Reg.hpCnt3, 0)
  | .irqLateReply => (Reg.hpIrqStat, 8, Reg.hpCnt3, 16)
  | .irqFrameErr => (Reg.hpIrqStat, 9, Reg.hpCnt4, 0)
  | .storeFail => (Reg.nvmFlags, 0, Reg.nvmCnt0, 0)
  | .recallSkip => (Reg.nvmFlags, 1, Reg.nvmCnt0, 16)
  | .bootReject => (Reg.nvmFlags, 2, Reg.nvmCnt1, 0)
  | .committed => (Reg.nvmFlags, 3, Reg.nvmCnt1, 16)
  | .energyShort => (Reg.enFlags, 0, Reg.enCnt0, 0)
  | .debt => (Reg.enFlags, 1, Reg.enCnt0, 16)
  | .exactOver => (Reg.enFlags, 2, Reg.enCnt1, 0)
  | .sensorFault => (Reg.enFlags, 3, Reg.enCnt1, 16)
  | .thermChatter => (Reg.enFlags, 4, Reg.enCnt2, 0)
  | .thermCrit => (Reg.enFlags, 5, Reg.enCnt2, 16)
  | .staleShape => (Reg.engFlags, 0, Reg.engCnt0, 0)
  | .shapeClamp => (Reg.engFlags, 1, Reg.engCnt0, 16)
  | .syncTmo => (Reg.engFlags, 2, Reg.engCnt1, 0)
  | .qfull => (Reg.dspFlags, 0, Reg.dspCnt0, 0)
  | .cancelled => (Reg.dspFlags, 1, Reg.dspCnt0, 16)
  | .scratchWait => (Reg.dspFlags, 2, Reg.dspCnt1, 0)
  | .traceWrap => (Reg.trFlags, 0, Reg.trCnt, 0)
  | .traceDrop => (Reg.trFlags, 1, Reg.trCnt, 16)
  | .nanSeen => (Reg.qsFlags, 0, Reg.qsCnt0, 0)
  | .qSat => (Reg.qsFlags, 1, Reg.qsCnt0, 16)
  | .accSat => (Reg.qsFlags, 2, Reg.qsCnt1, 0)
  | .collTrunc => (Reg.qsFlags, 3, Reg.qsCnt1, 16)
  | .capDrop => (Reg.xeFlags, 0, Reg.xeCnt0, 0)
  | .contribLost => (Reg.xeFlags, 1, Reg.xeCnt0, 16)
  | .binFull => (Reg.xeFlags, 2, Reg.xeCnt1, 0)
  | .segMissing => (Reg.xeFlags, 3, Reg.xeCnt1, 16)
  | .tagBad => (Reg.xeFlags, 4, Reg.xeCnt2, 0)
  | .smBad => (Reg.smFlags, 0, Reg.smCnt0, 0)
  | .smSkip => (Reg.smFlags, 1, Reg.smCnt0, 16)
  | .smWait => (Reg.smFlags, 2, Reg.smCnt1, 0)
  | .kminHit => (Reg.prFlags, 0, Reg.prCnt, 0)
  | .reportAbort => (Reg.resFlags, 0, Reg.resCnt0, 0)
  | .stateMissing => (Reg.resFlags, 1, Reg.resCnt0, 16)
  | .lateState => (Reg.resFlags, 2, Reg.resCnt1, 0)
  | .resBad => (Reg.resFlags, 3, Reg.resCnt1, 16)
  | .frameMiss => (Reg.pixFlags, 0, Reg.pixCnt0, 0)
  | .graftErr => (Reg.pixFlags, 1, Reg.pixCnt0, 16)
  | .watchBad => (Reg.pixFlags, 2, Reg.pixCnt1, 0)
  | .watchOvr => (Reg.pixFlags, 3, Reg.pixCnt1, 16)
  | .wmBad => (Reg.pixFlags, 4, Reg.pixCnt2, 0)
  | .ovrA => (Reg.adcFlags, 0, Reg.adcCnt0, 0)
  | .ovrB => (Reg.adcFlags, 1, Reg.adcCnt0, 16)
  | .regDropA => (Reg.adcFlags, 2, Reg.adcCnt1, 0)
  | .regDropB => (Reg.adcFlags, 3, Reg.adcCnt1, 16)
  | .injDropA => (Reg.adcFlags, 4, Reg.adcCnt2, 0)
  | .injDropB => (Reg.adcFlags, 5, Reg.adcCnt2, 16)
  | .refLoss => (Reg.adcFlags, 6, Reg.adcCnt3, 16)
  | .pageFull => (Reg.adcFlags, 7, Reg.adcCnt3, 0)
  | .crossSkip => (Reg.adcFlags, 8, Reg.adcCnt4, 0)
  | .crossFail => (Reg.adcCflags, 0, Reg.adcCcnt, 0)
  | .calRej => (Reg.adcCflags, 1, Reg.adcCcnt, 16)
  | .trip0 => (Reg.rfxFlags, 0, Reg.rfxCnt0, 0)
  | .trip1 => (Reg.rfxFlags, 1, Reg.rfxCnt0, 16)
  | .trip2 => (Reg.rfxFlags, 2, Reg.rfxCnt1, 0)
  | .trip3 => (Reg.rfxFlags, 3, Reg.rfxCnt1, 16)
  | .latched => (Reg.rfxFlags, 4, Reg.rfxCnt2, 0)
  | .haltRx => (Reg.rfxFlags, 5, Reg.rfxCnt2, 16)
  | .logOvf => (Reg.fltFlags, 0, Reg.fltCnt0, 0)
  | .bbFail => (Reg.fltFlags, 1, Reg.fltCnt0, 16)
  | .edge0 => (Reg.pmGpioFlags, 0, Reg.pmCnt0 + 0, 0)
  | .edge1 => (Reg.pmGpioFlags, 1, Reg.pmCnt0 + 0, 16)
  | .edge2 => (Reg.pmGpioFlags, 2, Reg.pmCnt0 + 4, 0)
  | .edge3 => (Reg.pmGpioFlags, 3, Reg.pmCnt0 + 4, 16)
  | .edge4 => (Reg.pmGpioFlags, 4, Reg.pmCnt0 + 8, 0)
  | .edge5 => (Reg.pmGpioFlags, 5, Reg.pmCnt0 + 8, 16)
  | .edge6 => (Reg.pmGpioFlags, 6, Reg.pmCnt0 + 12, 0)
  | .edge7 => (Reg.pmGpioFlags, 7, Reg.pmCnt0 + 12, 16)

/-- Set a W1C flag: its bit becomes 1 and its counter counts the event, saturating (R13). The bit belongs to the present cycle
(R11). -/
def setFlag (f : Flag) : Prog :=
  Prog.all [
    setFld f.site.1 f.site.2.1 f.site.2.1 1, addSat f.site.2.2.1 (f.site.2.2.2 + 15) f.site.2.2.2 1,
    .note fun c => { c with flags := noteBits f.site.1 (placeBit true f.site.2.1) c.flags }]

/-- Set a flag when a condition holds. -/
def setFlagIf (b : Bool) (f : Flag) : Prog := Prog.when b (setFlag f)

/-- The registers with fields that their tables call saturating counts (R682). -/
def saturatingRegs : List Nat :=
  [Reg.tickCnt0, Reg.tickCnt1, Reg.tickCnt2, Reg.pwrCnt0, Reg.pwrCnt1, Reg.rlCnt0, Reg.rlCnt1, Reg.rlCnt2, Reg.rlCnt3,
   Reg.rlCnt4, Reg.rlRetryCnt, Reg.rlCrcCnt, Reg.rlOsCnt, Reg.hpCnt0, Reg.hpCnt1, Reg.hpCnt2, Reg.hpCnt3, Reg.hpCnt4,
   Reg.hpCnt5, Reg.hpCnt6, Reg.nvmCnt0, Reg.nvmCnt1, Reg.nvmStoreCnt, Reg.enCnt0, Reg.enCnt1, Reg.enCnt2, Reg.engCnt0,
   Reg.engCnt1, Reg.dspCnt0, Reg.dspCnt1, Reg.dspDoneCnt, Reg.dspCancelCnt, Reg.dspPfWaste, Reg.trCnt, Reg.qsCnt0,
   Reg.qsCnt1, Reg.qsSatElems, Reg.qsNanElems, Reg.xeCnt0, Reg.xeCnt1, Reg.xeCnt2, Reg.xeDropTok, Reg.xeLostTok,
   Reg.smCnt0, Reg.smCnt1, Reg.prCnt, Reg.prKeptLast, Reg.prSkipFarLast, Reg.prSkipWeakLast, Reg.prRestoredLast,
   Reg.resCnt0, Reg.resCnt1, Reg.pixCnt0, Reg.pixCnt1, Reg.pixCnt2, Reg.pixRowerr, Reg.adcCnt0, Reg.adcCnt1, Reg.adcCnt2,
   Reg.adcCnt3, Reg.adcCnt4, Reg.adcCcnt, Reg.rfxCnt0, Reg.rfxCnt1, Reg.rfxCnt2, Reg.pmCnt0, Reg.pmCnt0 + 4,
   Reg.pmCnt0 + 8, Reg.pmCnt0 + 12, Reg.pmSwitchCnt, Reg.fltCnt0, Reg.fltCnt1]

/-- Clear every saturating count of the node; what the present cycle's events add is left (R682). -/
def clearCounts : Prog :=
  .seq (Prog.each saturatingRegs fun a => .reg a 0)
    (.look fun s => Prog.each (s.cycle.counts.filter fun c => decide (c.reg ∈ saturatingRegs)) fun c =>
      setFld c.reg c.hi c.lo (min c.n (2 ^ (c.hi + 1 - c.lo) - 1)))

/-- Bits of RC fields (Table 0-3). -/
def rcMask (a : Nat) : Word :=
  match regRow? a with
  | some r => BitVec.ofNat 32 r.rc
  | none => 0

/-- A read clears the RC fields of its register; what the present cycle's events contribute is left (Table 0-3, R12). -/
def readEffect (a : Nat) : Prog :=
  .look fun s => Prog.when (rcMask a != 0)
    (match s.rcNote a with
      | none => .reg a (s.stored a &&& ~~~rcMask a)
      | some r => .seq (.reg a (masked (s.stored a) (rcMask a) r.events))
        (.note fun c => { c with rc := putRc { r with before := r.before &&& ~~~rcMask a } c.rc }))

/-- FLT_SUM: bit n is 1 while a W1C flag in register block n is set (R683). -/
def faultSum (s : State) : Nat :=
  (List.range 16).foldl (fun acc n =>
    if flagAddrs.any fun a => decide ((a - 0x08000000) / 0x10000 = n) && decide (s.stored a &&& w1cMask a ≠ 0)
    then acc + 2 ^ n else acc) 0

/-- Whether the node answers packets with firmware running: its keeper set is up (R112, R117). -/
def State.keeperUp (s : State) : Bool := s.pwr.phase == .keeper

/-- Whether the node is in ROM-only service (R111). -/
def State.romOnly (s : State) : Bool := s.pwr.phase == .romOnly

/-- Whether the comparators are armed: REFLEX_ARMED (R107). -/
def State.armed (s : State) : Bool := s.pwr.phase != .inReset && s.pwr.phase != .rom

/-- Whether the node repeats row traffic: from the keeper set up, or in ROM-only service (R33, R105, R111). -/
def State.repeats (s : State) : Bool := (s.keeperUp || s.romOnly) && s.pwr.rowLinkOk

/-- The latched HEAD strap: this node is a head (R26, R96). -/
def State.isHead (s : State) : Bool := s.pwr.strapsKept && !s.pwr.straps.headN

/-- A condition of Table 18-1 has occurred: it waits for its record (R684, R687). ROM-only service records none (R111). -/
def raise (code sev : Nat) (data : Word) : Prog :=
  .look fun s => Prog.when (!s.romOnly) (modFlt fun f =>
    { f with conds := f.conds ++ [{ code := BitVec.ofNat 16 code, sev := sev, src := s.link.addr.toNat, data := data, tick := none }] })

/-- Whether the node drives HALT_N low (R101, R635, R697). DESIGN CHOICE, log entry 115: from a brown-out of VDD_IO until BROWN_OUT_RELEASE, VDD_IO
counts as absent. -/
def State.drivesHalt (s : State) : Bool :=
  (!s.armed && !s.pwr.brown.contains .io) || s.rfx.latch != 0 || s.rfx.fhalt || s.stored Reg.rfxEchoSrc != 0

/-- HP_IRQ_STAT: the stored flags with the level of REPLY (Table 5-8). -/
def State.irqStat (s : State) : Word := masked (s.stored Reg.hpIrqStat) 1 (placeBit (!s.hp.queue.isEmpty) 0)

/-- Whether the node drives IRQ_N low (R233). -/
def State.irqLow (s : State) : Bool := s.irqStat &&& s.stored Reg.hpIrqEn != 0

end Sys2Proof.Machine
end

