-- ==== Sys2Proof/Machine/Analog.lean ====
section
/-! DEFINITION. Voltages and pad levels: the reference, the test DAC and its switch, the AIN pins, the comparators' thresholds and
raw outputs (chapters 15 and 16), and the levels of the GPIO balls' pads (chapter 17). Voltages are in nV. -/

namespace Sys2Proof.Machine

/-- An error within a bound on either side. -/
def within (bound : Nat) (e : Int) : Int := max (-Int.ofNat bound) (min (Int.ofNat bound) e)

/-- A number within a range. -/
def between (lo hi v : Nat) : Nat := max lo (min hi v)

/-- The keeper's level of a ball that is in its hand-over (R254): none where it is not in one. -/
def State.handHold (s : State) (ball : Nat) : Option (Option Bool) :=
  (s.pins.hand.find? fun h => h.ball == ball).map fun h => h.hold

/-- Errors that stay within a bound, and move by at most a step from one place to the next. -/
def walk (bound step : Nat) (e : Nat → Int) : Nat → Int
  | 0 => within bound (e 0)
  | n + 1 => within bound (walk bound step e n + within step (e (n + 1)))

/-- VREF (R589): the internal 1.500 V within 1.0 % (Table 19-10), or VREF_EXT, which the board holds between 1.000 V and 1.800 V (log
entry 94). -/
def State.vref (s : State) : Nat :=
  if s.flag Reg.adcRef 1 then between 1000000000 1800000000 Config.vrefExt
  else (1500000000 + within 15000000 (Config.vrefError s.now)).toNat

/-- VDD_ANA (Table 3-1; log entry 94). -/
def State.vddAna (s : State) : Nat := between 1710000000 1890000000 (Config.vddAna s.now)

/-- Output of the test DAC (R647): CODE × VREF / 256 while it is on and REF_READY is 1, within the INL of 1 LSB and the DNL of 0.5 LSB of
Table 19-10; else no rule defines it and it is free (log entry 94). -/
def State.tdac (s : State) : Nat :=
  let code := s.fld Reg.tdacCtrl 7 0
  if s.flag Reg.tdacCtrl 31 && s.adc.refReady then
    (Int.ofNat (code * s.vref / 256) + walk (s.vref / 256) (s.vref / 512) Config.tdacError code).toNat
  else Config.tdacLoose s.now

/-- The test switch connects the DAC output to AINn (R648). It is open while the pin is in digital mode or in its hand-over (R256,
R667). -/
def State.switched (s : State) (n : Nat) : Bool :=
  s.flag Reg.tdacCtrl 30 && decide (s.fld Reg.tdacCtrl 19 16 = n) && s.flag Reg.pmAinMode n && (s.handHold (8 + n)).isNone

/-- Resistance from the test DAC to a pin: the test switch, nominally 10 kΩ, behind the DAC's own (R648, Table 19-10; log entry 94). -/
def switchOhm : Nat := between 7000 13000 Config.switchOhm + between 0 200 Config.tdacOhm

/-- The voltage at AINn while a source drives it (R648). -/
def State.pinVolt (s : State) (n : Nat) (src : Source) : Int :=
  if s.switched n then (src.nv * Int.ofNat switchOhm + Int.ofNat (s.tdac * src.ohm)) / Int.ofNat (src.ohm + switchOhm) else src.nv

/-- What drives AINn: of AIN0 to AIN3 the commands tell it, of the others none does (log entry 95). -/
def State.ainSource (s : State) (n : Nat) : Source := if n < 4 then s.pins.ain.getD n ⟨0, 0⟩ else Config.ainSource s.now n

/-- The voltage at AINn. -/
def State.ainVolt (s : State) (n : Nat) : Int := s.pinVolt n (s.ainSource n)

/-- Rising threshold of a digital AIN (R712, Table 19-3): at most VIH, and at least the hysteresis of 0.10 V above VIL. -/
def State.ainUp (s : State) (n : Nat) : Nat := between (s.vddAna * 35 / 100 + 100000000) (s.vddAna * 65 / 100) (Config.ainUp n)

/-- Falling threshold of a digital AIN (R712, Table 19-3). -/
def State.ainDown (s : State) (n : Nat) : Nat := between (s.vddAna * 35 / 100) (s.ainUp n - 100000000) (Config.ainDown n)

/-- Whether the digital input buffer of AINn is on: digital mode, past its hand-over (R256, R667). -/
def State.ainDigital (s : State) (n : Nat) : Bool := !s.flag Reg.pmAinMode n && (s.handHold (8 + n)).isNone

/-- Level that PM_AIN_IN shows of AINn (R256, R667): between its thresholds the buffer keeps its level (Table 19-3). -/
def State.ainLevel (s : State) (n : Nat) : Bool :=
  s.ainDigital n &&
    (if Int.ofNat (s.ainUp n) ≤ s.ainVolt n then true else if s.ainVolt n ≤ Int.ofNat (s.ainDown n) then false else s.pins.ainBit.getLsbD n)

/-- The mask of the bits that pass a test. -/
def maskOf (w : Nat) (p : Nat → Bool) : BitVec w := (List.range w).foldl (fun m n => if p n then m ||| (1#w <<< n) else m) 0#w

/-- Four bits of a mask from a test. -/
def mask4 (p : Nat → Bool) : BitVec 4 := maskOf 4 p

/-- The digital input buffers take the levels of their pins. What one that is off will start from is free (log entry 95). -/
def sampleAins : Prog :=
  .look fun s => modPins fun p => { p with
    ainBit := maskOf 16 fun n => if s.ainDigital n then s.ainLevel n else Config.looseLevel s.now (8 + n) }

/-- Control register of a comparator (Table 16-5). -/
def cmpCtrl (n : Nat) : Nat := Reg.cmp0Ctrl + 4 * n

/-- Whether a comparator runs: armed, enabled, its pin in analogue mode and past its hand-over (R107, R256, R629, R668). -/
def State.cmpRuns (s : State) (n : Nat) : Bool :=
  s.armed && s.flag (cmpCtrl n) 31 && s.flag Reg.pmAinMode n && (s.handHold (8 + n)).isNone

/-- V_THR of a comparator (R628), within ±(1 % + 4 mV) of THR × 7.0 mV (Table 19-10; log entry 94). -/
def State.vThr (s : State) (n : Nat) : Nat :=
  let thr := s.fld (cmpCtrl n) 7 0 * 7000000
  (Int.ofNat thr + within (thr / 100 + 4000000) (Config.thrError n s.now)).toNat

/-- V_HYST of a comparator (R629), within ±(25 % + 2 mV) of 0, 10, 20 or 40 mV (Table 19-10; log entry 94). -/
def State.vHyst (s : State) (n : Nat) : Nat :=
  let hyst := [0, 10000000, 20000000, 40000000].getD (s.fld (cmpCtrl n) 25 24) 0
  (Int.ofNat hyst + within (hyst / 4 + 2000000) (Config.hystError n s.now)).toNat

/-- The raw output of a comparator that has been at `was` (R629). -/
def rawOutput (above : Bool) (v : Int) (thr hyst : Nat) (was : Bool) : Bool :=
  if above then (if Int.ofNat thr < v then true else if v + Int.ofNat hyst < Int.ofNat thr then false else was)
  else if v < Int.ofNat thr then true else if Int.ofNat (thr + hyst) < v then false else was

/-- The raw output of comparator n now. One that does not run is untripped: log entry 22. -/
def State.rawNow (s : State) (n : Nat) : Bool :=
  s.cmpRuns n && rawOutput (s.flag (cmpCtrl n) 27) (s.ainVolt n) (s.vThr n) (s.vHyst n) (s.rfx.raw.getLsbD n)

/-- The comparators' raw outputs, and the digital input buffers, follow their inputs and settings (R628, R629, R632, R667). -/
def judgeRaw : Prog := .seq sampleAins (.look fun s => modRfx fun r => { r with raw := mask4 s.rawNow })

/-- The code of a voltage from the levels at which a converter passes from one code to the next. -/
def codeOf (level : Nat → Int) (v : Int) : Nat := ((List.range 4095).filter fun n => decide (level n < v)).length

/-- The ideal transition from code n to n + 1 (R588). -/
def idealLevel (vref n : Nat) : Int := Int.ofNat ((2 * n + 1) * vref / 8192)

/-- The ideal transfer of a voltage (R588). -/
def idealCode (vref : Nat) (v : Int) : Nat := codeOf (idealLevel vref) v

/-- 0 for ADC A, 1 for ADC B. -/
def convIndex : Conv → Nat
  | .a => 0
  | .b => 1

/-- The transition of a converter from code n to n + 1 at an instant, within the offset, gain, DNL and INL figures of Table 19-8 before
calibration. What moves between two instants lies within the figures after calibration over the full range (log entry 94). -/
def adcLevel (vref at' : Nat) (c : Conv) (n : Nat) : Int :=
  let lsb := vref / 4096
  let drift := within (2 * lsb) (Config.adcDrift at')
  let moved := match c with
    | .a => drift
    | .b => within (2 * lsb) (drift + within (5 * lsb / 2) (Config.adcApart at'))
  let gain := within 20000 (within 20000 (Config.adcGain (convIndex c)) + within 1500 (Config.adcGainDrift at'))
  let off := within (16 * lsb) (within (16 * lsb) (Config.adcOffset (convIndex c)) + moved)
  idealLevel vref n * (1000000 + gain) / 1000000 + off + walk (5 * lsb / 2) (9 * lsb / 10) (Config.adcNonlinear (convIndex c)) n

/-- A code within the sum of the figures of Table 19-8 before calibration. -/
def nearCode (n code : Nat) : Nat := between (n - (19 + ceilDiv n 50)) (min 4095 (n + (19 + ceilDiv n 50))) code

/-- The code of a conversion of a voltage at an instant while the figures of Table 19-8 cover it. ADC B lies within 48 codes of what ADC A
would deliver. -/
def rawCode (s : State) (at' : Nat) (c : Conv) (v : Int) : Nat :=
  let code := fun c => nearCode (idealCode s.vref v) (codeOf (adcLevel s.vref at' c) v)
  match c with
  | .a => code .a
  | .b => between (code .a - 48) (code .a + 48) (code .b)

/-- The voltage at a converter's channel (Table 15-1): an AIN pin, the test DAC, VREF / 2, or a monitor, whose source gives the nominal voltage of
what it watches: TEMP0 and TEMP1 within 5 °C, the supplies within 1.0 % (Table 19-8). -/
def State.channelVolt (s : State) (ch : Nat) (src : Source) : Int :=
  if ch < 16 then s.pinVolt ch src
  else if ch = 21 then Int.ofNat s.tdac
  else if ch = 22 then Int.ofNat (s.vref / 2)
  else if ch < 18 then src.nv + within 10000000 (Config.monitorError s.now ch)
  else src.nv + within (src.nv.toNat / 100) (Config.monitorError s.now ch)

/-- Largest source resistance of a sampling extension in Ω (Table 19-9). -/
def sourceLimit (smp : Nat) : Nat := [6000, 25000, 65000, 150000].getD smp 0

/-- Whether the figures of Table 19-8 cover a conversion of a channel: its pin injects no current, and its source is not above Table 19-9 (R721 to
R723). -/
def State.covered (s : State) (ch smp : Nat) (src : Source) : Bool :=
  decide (16 ≤ ch) || (decide (0 ≤ s.pinVolt ch src) && decide (s.pinVolt ch src ≤ Int.ofNat s.vddAna) &&
    decide (src.ohm ≤ sourceLimit smp))

/-- The raw code of one conversion at an instant (R588, R593, R721 to R723). -/
def convert (s : State) (at' : Nat) (c : Conv) (ch smp : Nat) (refnr : Bool) (src : Source) : Nat :=
  if refnr || !s.covered ch smp src then Config.looseCode at' (convIndex c) % 4096 else rawCode s at' c (s.channelVolt ch src)

/-- The level of a GPIO ball that no function of the node drives (R664): the surroundings', else the pull's, else free (log
entry 95). -/
def State.padLevel (s : State) (n : Nat) : Bool :=
  if s.pins.driven.getLsbD n then s.pins.gpio.getLsbD n
  else
    let pull := s.fld (Reg.pmGpioCfg0 + 4 * n) 9 8
    if pull = 1 then false else if pull = 2 then true else Config.looseLevel s.now n

end Sys2Proof.Machine
end

