-- ==== Sys2Proof/Machine/Operands.lean ====
section
/-! DEFINITION. What commands read: the fields of a register read that show the units live, the settings copies in MRAM, and
the fields of packets. -/

namespace Sys2Proof.Machine

/-- The number of bits set in a vector of 64 bits. -/
def popCount (v : BitVec 64) : Nat := ((List.range 64).filter fun n => v.getLsbD n).length

/-- A settings copy of MRAM: its SEQ, COUNT and CRC words and its entries (Table 6-3). -/
def State.copySeq (s : State) (base : Nat) : Word := s.rd32 (base + 4)

/-- COUNT of a settings copy. -/
def State.copyCount (s : State) (base : Nat) : Nat := (s.rd32 (base + 8)).toNat

/-- Whether the copy at a base is valid (R263). A failed MRAM read path yields none (Table 3-10). -/
def State.copyValid (s : State) (base : Nat) : Bool :=
  s.pwr.mramOk && s.rd32 base == 0x54534B53 && decide (1 ≤ s.copyCount base) && decide (s.copyCount base ≤ 8190) &&
    s.rd32 (base + 12) == crc32 (s.rdBytes base 12 ++ s.rdBytes (base + 16) (8 * s.copyCount base))

/-- The entries of a copy, as stored. -/
def State.copyEntries (s : State) (base : Nat) : List (Nat × Word) :=
  (List.range (s.copyCount base)).map fun i => ((s.rd32 (base + 16 + 8 * i)).toNat, s.rd32 (base + 20 + 8 * i))

/-- Base of the newest valid copy (R263). -/
def State.newestCopy (s : State) : Option Nat :=
  let a := s.copyValid Mram.copyA
  let b := s.copyValid Mram.copyB
  if a && b then (if (s.copySeq Mram.copyA).toNat < (s.copySeq Mram.copyB).toNat then some Mram.copyB else some Mram.copyA)
  else if a then some Mram.copyA else if b then some Mram.copyB else none

/-- Working cores as checks see them: 64 until BIST completes (R745). -/
def State.coreCount (s : State) : Nat := if s.pwr.bistDone then popCount s.pwr.coreOk else 64

/-- Whether the node offers a service level (Table 3-9). Nothing but the keeper set has passed BIST before BIST is complete. -/
def State.allows (s : State) : Level → Bool
  | .keep => s.keeperUp
  | .watch => s.keeperUp && s.pwr.bistDone && s.pwr.shSramOk && s.pwr.mramOk && decide (4 ≤ s.coreCount)
  | .run => s.keeperUp && s.pwr.bistDone && s.pwr.shSramOk && s.pwr.mramOk && decide (4 ≤ s.coreCount) && s.pwr.memDieOk

/-- Code of a level in SYS_NODE (Table 1-7). -/
def levelCode : Level → Nat
  | .keep => 0
  | .watch => 1
  | .run => 2

/-- Whether imager functions exist on this node: IMAGER of SYS_CAPS, or the fused product before BIST completes (R3, R745). -/
def State.imagerPresent (s : State) : Bool := s.fuse.isV64 && (if s.pwr.bistDone then s.pwr.imagerOk else true)

/-- Level that an output function of a GPIO drives (Table 17-2); none where the function is an input. -/
def State.gpioDrive (s : State) (n : Nat) : Option Bool :=
  let func := s.fld (Reg.pmGpioCfg0 + 4 * n) 3 0
  if func = 1 then some (s.flag Reg.pmGpioOut n)
  else if 2 ≤ func ∧ func ≤ 5 then some (s.rfx.filt.getLsbD (func - 2))
  else if func = 6 then some s.wm.present
  else if func = 7 then some s.pins.pulse
  else none

/-- Level at GPIO ball n (R662, R664, R666, R672, R673): during a hand-over the surroundings override the keeper. -/
def State.gpioLevel (s : State) (n : Nat) : Bool :=
  match s.handHold n with
  | some (some b) => if s.pins.driven.getLsbD n then s.pins.gpio.getLsbD n else b
  | some none => s.padLevel n
  | none =>
    match s.gpioDrive n with
    | none => s.padLevel n
    | some b => if b && s.flag (Reg.pmGpioCfg0 + 4 * n) 4 then s.padLevel n else b

/-- FUNC of a GPIO ball that runs now. -/
def State.func (s : State) (n : Nat) : Nat := s.fld (Reg.pmGpioCfg0 + 4 * n) 3 0

/-- Whether EDGE of a GPIO ball selects a direction, and edges are detected on it now (R665, R675). -/
def State.edgeSelected (s : State) (n : Nat) (rising : Bool) : Bool :=
  decide (s.func n ≤ 1) && (s.handHold n).isNone && s.flag (Reg.pmGpioCfg0 + 4 * n) (if rising then 10 else 11)

/-- EDGEn. -/
def edgeFlag (n : Nat) : Flag :=
  [.edge0, .edge1, .edge2, .edge3, .edge4, .edge5, .edge6, .edge7].getD n .edge0

/-- Whether STROBE is driven (R656). -/
def strobeDriven (s : State) : Bool := s.flag Reg.imgCtrl 8 || s.flag Reg.watchCtrl 24

/-- Level that the node gives the STROBE ball: none while it is high-impedance. It is active high, or active low with STROBE_POL 1
(R551, R656), and its last level in a hand-over (R672). -/
def strobeBall (s : State) : Option Bool :=
  match s.handHold 24 with
  | some h => h
  | none => if strobeDriven s then some (s.img.strobe != s.flag Reg.imgCtrl 9) else none

/-- A number from bits, lowest first. -/
def fromBits (l : List Bool) : Nat := l.foldr (fun b acc => (if b then 1 else 0) + 2 * acc) 0

/-- An engine's running entry; an entry on both matrix engines stands in ME0 (Table 2-2). -/
def Eng.run? (e : Eng) : Engine → Option Run
  | .me0 => e.me0
  | .me1 =>
    match e.me0 with
    | some r => if r.both then some r else e.me1
    | none => e.me1
  | .ve => e.ve
  | .xe => e.xe
  | .pe => e.pe

/-- The engines in the order of ENG_STAT. -/
def engines : List Engine := [.me0, .me1, .ve, .xe, .pe]

/-- Index of an engine in ENG_STAT and ENG_POS (Table 8-14). -/
def engineIndex : Engine → Nat
  | .me0 => 0
  | .me1 => 1
  | .ve => 2
  | .xe => 3
  | .pe => 4

/-- Whether a list waits at SYNC or WAIT_SLOT (Table 8-14). -/
def Block.waits : Block → Bool
  | .sync _ _ _ => true
  | .waitSlot _ _ => true
  | _ => false

/-- Descriptors in a ready queue (R357). -/
def Dsp.level (d : Dsp) (q : Nat) : Nat :=
  (d.ready.filter fun i => d.descs.any fun x => x.id == i && x.prio == q).length

/-- TICK_STAT's live bits (Table 2-8). -/
def tickStatLive (t : Tick) : Word :=
  place t.flyCount 24 20 ||| placeBit t.held 19 ||| placeBit t.flywheel 18 ||| placeBit t.sched 17 ||| placeBit t.running 16

/-- One converter's bits of ADC_STAT (Table 15-6). -/
def convStat (c : ConvSt) : Nat := fromBits [c.reg.isSome, c.inj.isSome, c.held.isSome]

/-- PWR_STAT (Table 3-12). -/
def pwrStat (s : State) : Word :=
  placeBit (s.pwr.strapsKept && s.pwr.straps.mode1) 23 ||| placeBit (s.pwr.strapsKept && s.pwr.straps.mode0) 22 |||
    place ((s.pwr.pend.map levelCode).getD 0) 19 18 ||| placeBit s.pwr.pend.isSome 17 ||| placeBit s.romOnly 16 |||
    placeBit s.pwr.slotB 8 ||| placeBit (s.pwr.bistDone && s.allows .run) 3 ||| placeBit s.link.rowUp 2 |||
    placeBit s.keeperUp 1 ||| placeBit s.armed 0

/-- Whether a settings copy shows as valid: not before the boot ROM has read the copies (R107, R737). -/
def State.copyShown (s : State) (base : Nat) : Bool := s.armed && s.copyValid base

/-- STG_STAT (Table 6-5). -/
def stgStat (s : State) : Word :=
  placeBit (s.armed && s.newestCopy == some Mram.copyB) 6 ||| placeBit (s.copyShown Mram.copyB) 5 ||| placeBit (s.copyShown Mram.copyA) 4 |||
    placeBit s.stg.job.isSome 3 ||| placeBit (s.stg.pend.any fun p => p.byAt) 2 ||| placeBit s.stg.pend.isSome 1 |||
    placeBit (!s.stg.bank.isEmpty) 0

/-- ENG_STAT (Table 8-14). -/
def engStat (e : Eng) : Word :=
  placeBit e.image.isSome 16 ||| place (fromBits (engines.map fun g => (e.run? g).any fun r => r.block.waits)) 12 8 |||
    place (fromBits (engines.map fun g => (e.run? g).isSome)) 4 0

/-- RFX_STAT (Table 16-5). DRIVE and NET read 0 until the boot ROM has armed the comparators (Table 20-15; log entry 32). Whether
anything else holds the net low is a free value (log entry 13). -/
def rfxStat (s : State) : Word :=
  placeBit (s.armed && (s.drivesHalt || Config.netHeld s.now)) 24 ||| placeBit (s.armed && s.drivesHalt) 20 |||
    placeBit (s.stored Reg.rfxEchoSrc != 0) 16 ||| place s.rfx.latch.toNat 11 8 ||| place s.rfx.filt.toNat 3 0

/-- Highest severity among held records (Table 18-9). -/
def maxSev (log : List FltRec) : Nat := log.foldl (fun m r => max m r.sev) 0

/-- Token pairs of this node that wait to be sent (Table 11-8, SENDING). -/
def State.xeSending (s : State) : Bool :=
  (s.link.upPort.waiting ++ s.link.dnPort.waiting).any fun f => (f.typ == 2 || f.typ == 3) && f.src == s.link.addr

/-- Live fields of the SYS, TICK, ENERGY, ROWLINK and HOSTPORT blocks: the mask of the bits that come from the units, and
their values. -/
def liveLow (s : State) (a : Nat) : Option (Word × Word) :=
  if a = Reg.sysId then some (0xFF00, place (if s.fuse.isV64 then 1 else 2) 15 8)
  else if a = Reg.sysCaps then
    some (0x7F0007, if s.pwr.bistDone then
      place (popCount s.pwr.coreOk) 22 16 ||| placeBit (s.fuse.isV64 && s.pwr.imagerOk) 2 ||| placeBit s.pwr.memDieOk 1 |||
        placeBit s.pwr.mramOk 0 else 0)
  else if a = Reg.sysNode then
    some (0x313F, place (levelCode s.pwr.level) 13 12 ||| placeBit s.isHead 8 ||| place s.link.addr.toNat 5 0)
  else if a = Reg.sysCoreLo then some (0xFFFFFFFF, if s.pwr.bistDone then s.pwr.coreOk.setWidth 32 else 0)
  else if a = Reg.sysCoreHi then some (0xFFFFFFFF, if s.pwr.bistDone then (s.pwr.coreOk >>> 32).setWidth 32 else 0)
  else if a = Reg.resStat then
    some (7, place ((if s.res.page0.isSome then 1 else 0) + (if s.res.page1.isSome then 1 else 0)) 2 1 ||| placeBit s.res.newest 0)
  else if a = Reg.tickGuard then some (0xFFFFF, place (guardOf s.period) 19 0)
  else if a = Reg.tickNum then some (0xFFFFFFFF, s.tick.num)
  else if a = Reg.tickOffset then some (0xFFFFF, place s.offset 19 0)
  else if a = Reg.tickMeas then some (if s.tick.accepted < 2 then 0xFFFFF else 0, place s.period 19 0)
  else if a = Reg.tickStat then some (0x1FF0000, tickStatLive s.tick)
  else if a = Reg.slotCur then some (0x3FF01FF, place s.tick.started 25 16 ||| place s.tick.last 8 0)
  else if a = Reg.enBal then some (0xFFFFFFFF, BitVec.ofInt 32 s.en.bal)
  else if a = Reg.enCur then some (0xFFFFFFFF, place s.en.shown 31 0)
  else if a = Reg.enGrade then
    some (0x71333, place ((s.eng.image.map fun i => i.ng).getD 0) 18 16 ||| placeBit s.en.pinValid 12 ||| place s.en.pin 9 8 |||
      place s.en.floor 5 4 ||| place s.en.cur 1 0)
  else if a = Reg.thStat then some (0x1003F0F, placeBit s.en.hold 24 ||| place s.en.cool 13 8 ||| place s.en.hot 3 0)
  else if a = Reg.rlStat then
    some (0x3F0303, place (if s.isHead then s.link.rowLen else 0) 21 16 ||| placeBit s.link.lockBad 9 ||| placeBit s.link.enumBusy 8 |||
      placeBit s.link.dnPort.up 1 ||| placeBit s.link.upPort.up 0)
  else if a = Reg.rlSerialLo then some (0xFFFFFFFF, s.fuse.serial.setWidth 32)
  else if a = Reg.rlSerialHi then some (0xFFFFFFFF, (s.fuse.serial >>> 32).setWidth 32)
  else if a = Reg.hpQstat then
    some (0xFFFFFF, place (min s.hp.queue.length 255) 23 16 ||| place ((s.hp.queue.head?.map fun q => q.bytes.length).getD 0) 15 0)
  else if a = Reg.hpIrqStat then some (1, placeBit (!s.hp.queue.isEmpty) 0)
  else none

/-- Live fields of the STAGE, DISPATCH, ENGINES, EXCHANGE and QUANT blocks. -/
def liveMid (s : State) (a : Nat) : Option (Word × Word) :=
  if a = Reg.stgStat then some (0x7F, stgStat s)
  else if a = Reg.stgPendTick then some (0xFFFFFFFF, (s.stg.pend.map fun p => p.tick).getD 0)
  else if a = Reg.stgCount then some (0xFFFF, place s.stg.bank.length 15 0)
  else if a = Reg.stgUnlock then some (0xFFFFFFFF, 0)
  else if a = Reg.nvmSeqA then some (0xFFFFFFFF, if s.copyShown Mram.copyA then s.copySeq Mram.copyA else 0)
  else if a = Reg.nvmSeqB then some (0xFFFFFFFF, if s.copyShown Mram.copyB then s.copySeq Mram.copyB else 0)
  else if Reg.dspQlvl01 ≤ a ∧ a ≤ Reg.dspQlvl67 then
    some (0x1FF01FF, place (s.units.dsp.level ((a - Reg.dspQlvl01) / 2 + 1)) 24 16 |||
      place (s.units.dsp.level ((a - Reg.dspQlvl01) / 2)) 8 0)
  else if a = Reg.dspBusyLo then
    some (0xFFFFFFFF, place (fromBits ((List.range 32).map fun n => s.dsp.active.any fun x => x.1 == n)) 31 0)
  else if a = Reg.dspBusyHi then
    some (0xFFFFFFFF, place (fromBits ((List.range 32).map fun n => s.dsp.active.any fun x => x.1 == 32 + n)) 31 0)
  else if a = Reg.dspVbusy then
    some (0xFF, place (fromBits ((List.range 8).map fun n => s.dsp.active.any fun x => x.1 == 64 + n)) 7 0)
  else if a = Reg.engStat then some (0x11F1F, engStat s.eng)
  else if a = Reg.smStat then some (0x7F003F, place s.sm.fill 22 16 ||| place s.sm.newest 5 0)
  else if a = Reg.xeStat then
    some (0x3F0003, place s.xe.layers.length 21 16 ||| placeBit s.xe.inbound.isSome 1 ||| placeBit s.xeSending 0)
  else if Reg.qsColStat0 ≤ a ∧ a ≤ Reg.qsColStat0 + 60 then
    some (0xFFFF, place ((s.qs.coll[(a - Reg.qsColStat0) / 4]?.map fun c => c.window).getD 0) 15 0)
  else none

/-- Live fields of the PIXEL, ADC, REFLEX, PINMUX, FAULT and POWER blocks. -/
def liveHigh (s : State) (a : Nat) : Option (Word × Word) :=
  if a = Reg.imgStat then some (3, placeBit s.img.on 1 ||| placeBit s.img.ready 0)
  else if a = Reg.wmStat then some (0x10003, placeBit s.wm.present 16 ||| placeBit s.wm.job.isSome 1 ||| placeBit s.wm.valid 0)
  else if a = Reg.adcStat then
    some (0x1000707, placeBit s.adc.refReady 24 ||| place (convStat s.adc.b) 10 8 ||| place (convStat s.adc.a) 2 0)
  else if a = Reg.adcCalStat then some (0x300, placeBit s.adc.b.zero.isSome 9 ||| placeBit s.adc.a.zero.isSome 8)
  else if a = Reg.rfxStat then some (0x1110F0F, rfxStat s)
  else if a = Reg.pmGpioIn then some (0xFF, place (fromBits ((List.range 8).map s.gpioLevel)) 7 0)
  else if a = Reg.pmAinIn then some (0xFFFF, place (fromBits ((List.range 16).map s.ainLevel)) 15 0)
  else if a = Reg.pmStrapPin then
    some (7, placeBit s.pwr.strapPins.mode1 2 ||| placeBit s.pwr.strapPins.mode0 1 ||| placeBit s.pwr.strapPins.headN 0)
  else if a = Reg.fltStat then
    some (0xB00001FF, placeBit s.rfx.fhalt 31 ||| place (maxSev s.flt.log) 29 28 ||| place s.flt.log.length 8 0)
  else if a = Reg.fltSum then some (0xFFFF, place (faultSum s) 15 0)
  else if a = Reg.fltSeq then some (0xFFFF, place s.flt.seq 15 0)
  else if a = Reg.fltBb then some (0xFFFF0FFF, place s.flt.bbSeq 31 16 ||| place s.flt.bbNext 11 0)
  else if a = Reg.pwrStat then some (0xCF010F, pwrStat s)
  else none

/-- What a read of a register returns, before any clearing that the read itself does (Table 0-3, R10, R214). An RC field shows what
it held before the present cycle's events (R12). -/
def State.readReg (s : State) (a : Nat) : Word :=
  match (liveLow s a).or ((liveMid s a).or (liveHigh s a)) with
  | some (m, v) => masked (s.stored a) m v
  | none => ((s.rcNote a).map fun r => r.before).getD (s.stored a)

/-- Little-endian field of n bytes at an offset of a payload (R6). -/
def field (bs : List Byte) (off n : Nat) : Nat := leNat ((bs.drop off).take n)

/-- Whether bytes of a payload are 0, as reserved bytes must be (R212). -/
def zeroAt (bs : List Byte) (off n : Nat) : Bool := ((bs.drop off).take n).all fun b => b == 0

end Sys2Proof.Machine
end

