-- ==== Sys2Proof/Machine/Lanes.lean ====
section
/-! DEFINITION. The lanes of the Row Link (chapter 4): 8b/10b symbols, ordered sets and frames as the symbols of two lanes, and
what a receiver makes of the symbols that reach it. The 8b/10b code tables are those of the code that R128 names (log entry 96). -/

namespace Sys2Proof.Machine

/-- A symbol: a control symbol or a byte (R128, Table 4-1). -/
structure Symbol where
  k    : Bool
  byte : Byte
  deriving DecidableEq, Repr

/-- COM, K28.5. -/
abbrev Symbol.com : Symbol := ⟨true, 0xBC⟩
/-- SKP, K28.0. -/
abbrev Symbol.skp : Symbol := ⟨true, 0x1C⟩
/-- SOF, K27.7. -/
abbrev Symbol.sof : Symbol := ⟨true, 0xFB⟩
/-- EOF, K29.7. -/
abbrev Symbol.eof : Symbol := ⟨true, 0xFD⟩
/-- EDB, K30.7. -/
abbrev Symbol.edb : Symbol := ⟨true, 0xFE⟩
/-- The idle symbol D0.0 (R130). -/
abbrev Symbol.idle : Symbol := ⟨false, 0⟩

/-- Bits a b c d e i of D.x at negative running disparity, bit a first, and whether positive disparity complements them. -/
def sixOf (x : Nat) : Nat × Bool :=
  [(0b100111, true), (0b011101, true), (0b101101, true), (0b110001, false), (0b110101, true), (0b101001, false), (0b011001, false),
   (0b111000, true), (0b111001, true), (0b100101, false), (0b010101, false), (0b110100, false), (0b001101, false), (0b101100, false),
   (0b011100, false), (0b010111, true), (0b011011, true), (0b100011, false), (0b010011, false), (0b110010, false), (0b001011, false),
   (0b101010, false), (0b011010, false), (0b111010, true), (0b110011, true), (0b100110, false), (0b010110, false), (0b110110, true),
   (0b001110, false), (0b101110, true), (0b011110, true), (0b101011, true)].getD x (0, false)

/-- Bits f g h j of D.x.y at negative running disparity, and whether positive disparity complements them. -/
def fourOf (y : Nat) : Nat × Bool :=
  [(0b1011, true), (0b1001, false), (0b0101, false), (0b1100, true), (0b1101, true), (0b1010, false), (0b0110, false), (0b1110, true)].getD y (0, false)

/-- Bits f g h j of a control symbol K.x.y at negative running disparity; positive disparity complements them all. -/
def fourOfK (y : Nat) : Nat := [0b1011, 0b0110, 0b1010, 0b1100, 0b1101, 0b0101, 0b1001, 0b0111].getD y 0

/-- Number of ones among the low n bits. -/
def onesOf (n v : Nat) : Nat := ((List.range n).filter fun i => v.testBit i).length

/-- Running disparity after n bits: positive after more ones than zeros, negative after fewer, else unchanged. -/
def disparityAfter (rd : Bool) (n v : Nat) : Bool := if 2 * onesOf n v = n then rd else decide (n < 2 * onesOf n v)

/-- Six or four bits for a running disparity. -/
def forDisparity (rd : Bool) (n : Nat) (c : Nat × Bool) : Nat := if rd && c.2 then 2 ^ n - 1 - c.1 else c.1

/-- The code of a symbol at a running disparity: bits a b c d e i f g h j, a in the highest place, which is sent first (R128). -/
def encodeSymbol (rd : Bool) (s : Symbol) : BitVec 10 :=
  let x := s.byte.toNat % 32
  let y := s.byte.toNat / 32
  let six := forDisparity rd 6 (if s.k && x == 28 then (0b001111, true) else sixOf x)
  let mid := disparityAfter rd 6 six
  let seven := y == 7 && !s.k && (if mid then x == 11 || x == 13 || x == 14 else x == 17 || x == 18 || x == 20)
  let four := forDisparity mid 4 (if s.k then (fourOfK y, true) else if seven then (0b0111, true) else fourOf y)
  BitVec.ofNat 10 (16 * six + four)

/-- The symbols of Table 4-1 and the 256 bytes. -/
def symbols : List Symbol :=
  [.com, .skp, .sof, .eof, .edb] ++ (List.range 256).map fun n => ⟨false, BitVec.ofNat 8 n⟩

/-- The symbol of a code at a running disparity. None is a symbol error: another K symbol, an invalid code or a disparity error
(R131). -/
def decodeSymbol (rd : Bool) (c : BitVec 10) : Option Symbol := symbols.find? fun s => encodeSymbol rd s == c

/-- The codes of symbols on one lane. -/
def encodeLane : Bool → List Symbol → List (BitVec 10)
  | _, [] => []
  | rd, s :: t => encodeSymbol rd s :: encodeLane (disparityAfter rd 10 (encodeSymbol rd s).toNat) t

/-- Running disparity of a lane after codes. -/
def laneDisparity (rd : Bool) (cs : List (BitVec 10)) : Bool := cs.foldl (fun r c => disparityAfter r 10 c.toNat) rd

/-- The symbols of codes on one lane; none for a symbol error. -/
def decodeLane : Bool → List (BitVec 10) → List (Option Symbol)
  | _, [] => []
  | rd, c :: t => decodeSymbol rd c :: decodeLane (disparityAfter rd 10 c.toNat) t

/-- The running disparity at which a reception begins on a lane: where the latest one ended, or as the first code shows it where no code
has come before (R131; log entry 96). -/
def laneStart (rd : Option Bool) (cs : List (BitVec 10)) : Bool :=
  rd.getD (match cs with
    | [] => false
    | c :: _ => (decodeSymbol false c).isNone)

/-- What a port hears: the symbols of a reception on each lane, none for a symbol error. -/
structure Heard where
  lane0 : List (Option Symbol)
  lane1 : List (Option Symbol)
  deriving DecidableEq, Repr

/-- The symbols that a port receives (R128, R131). -/
def PortSt.hear (q : PortSt) (l : Lanes) : Heard :=
  { lane0 := decodeLane (laneStart q.rxRd0 l.lane0) l.lane0, lane1 := decodeLane (laneStart q.rxRd1 l.lane1) l.lane1 }

/-- The running disparities of a port behind a reception. -/
def PortSt.listened (q : PortSt) (l : Lanes) : PortSt :=
  { q with
    rxRd0 := if l.lane0 = [] then q.rxRd0 else some (laneDisparity (laneStart q.rxRd0 l.lane0) l.lane0)
    rxRd1 := if l.lane1 = [] then q.rxRd1 else some (laneDisparity (laneStart q.rxRd1 l.lane1) l.lane1) }

/-- Symbol errors on both lanes. -/
def symbolErrors (h : Heard) : Nat := ((h.lane0 ++ h.lane1).filter fun x => x.isNone).length

/-- CRC-8 with polynomial 0x07, one byte at a time (R132). -/
def crc8Step (c : Byte) (b : Byte) : Byte :=
  (List.range 8).foldl (fun c _ => if c.getLsbD 7 then (c <<< 1) ^^^ 0x07#8 else c <<< 1) (c ^^^ b)

/-- CHK of an ordered set (R132). -/
def crc8 (bs : List Byte) : Byte := bs.foldl crc8Step 0

/-- The SKP set (R137): it holds K28.0 symbols and no data, so no set of eight symbols equals it (R134). -/
abbrev OSet.skp : OSet := ⟨0x1C, []⟩

/-- The symbols of an ordered set on a lane (R132, R137). A TRAIN set names its lane. -/
def osetSymbols (lane1 : Bool) (o : OSet) : List Symbol :=
  if o = OSet.skp then [.com, .skp, .skp, .skp]
  else
    let data := if o.typ = 0x10 ∧ lane1 = true then 1 :: o.data.tail else o.data
    .com :: (o.typ :: data ++ [crc8 (o.typ :: data)]).map fun b => ⟨false, b⟩

/-- The ordered set that one lane received: every symbol valid and CHK right (R133). -/
def laneSet (l : List (Option Symbol)) : Option OSet :=
  match l with
  | [some ⟨true, 0xBC⟩, some ⟨false, t⟩, some ⟨false, a⟩, some ⟨false, b⟩, some ⟨false, c⟩, some ⟨false, d⟩, some ⟨false, e⟩, some ⟨false, chk⟩] =>
    if crc8 [t, a, b, c, d, e] = chk then some ⟨t, [a, b, c, d, e]⟩ else none
  | some ⟨true, 0xBC⟩ :: rest =>
    if rest.length ≤ 5 && !rest.isEmpty && rest.all (fun x => x == some Symbol.skp) then some OSet.skp else none
  | _ => none

/-- The ordered set that a receiver takes: lane 0's, else lane 1's (R133). -/
def receivedSet (h : Heard) : Option OSet := (laneSet h.lane0).or (laneSet h.lane1)

/-- The header of a frame (Table 4-3). -/
def headerBytes (f : TxFrame) : List Byte :=
  leBytes 1 (16 * f.typ.toNat) ++ leBytes 1 f.dst.toNat ++ leBytes 1 f.src.toNat ++ [f.seq] ++ leBytes 2 f.payload.length ++
    leBytes 2 f.aux.toNat ++ wordBytes f.win

/-- The bytes of a frame: header, payload and CRC (R140, R141). -/
def frameBytes (f : TxFrame) : List Byte :=
  let body := headerBytes f ++ f.payload
  body ++ wordBytes (crc32 body)

/-- The bytes at even places: those of lane 0 (R129). -/
def evenBytes : List Byte → List Byte
  | [] => []
  | [a] => [a]
  | a :: _ :: t => a :: evenBytes t

/-- The bytes at odd places: those of lane 1 (R129). -/
def oddBytes : List Byte → List Byte
  | [] => []
  | [_] => []
  | _ :: b :: t => b :: oddBytes t

/-- The bytes of two lanes put together again (R129). -/
def joinBytes {α : Type} : List α → List α → List α
  | a :: s, b :: t => a :: b :: joinBytes s t
  | _, _ => []

/-- The symbols on a lane of what a port sends: an ordered set, a frame, or a void copy of a frame (R129, R140, R148). -/
def wireSymbols (lane1 : Bool) : WireItem → List Symbol
  | .set o => osetSymbols lane1 o
  | .frame f => [.sof] ++ ((if lane1 then oddBytes else evenBytes) (frameBytes f)).map (fun b => ⟨false, b⟩) ++ [.eof]
  | .void bs => [.sof] ++ ((if lane1 then oddBytes else evenBytes) bs).map (fun b => ⟨false, b⟩) ++ [.edb]

/-- The codes on a port's two lanes in this cycle of the I/O clock; idle symbols where nothing else is sent (R128 to R130). -/
def PortSt.lanes (q : PortSt) : Lanes :=
  let syms := fun lane1 => if q.sent.isEmpty then List.replicate 5 Symbol.idle else q.sent.flatMap (wireSymbols lane1)
  { lane0 := encodeLane q.txRd0 (syms false), lane1 := encodeLane q.txRd1 (syms true) }

/-- A frame with the ordered sets that cut into it taken out, and those sets (R135). -/
structure Cut where
  frame : Heard
  sets  : List Heard
  deriving DecidableEq, Repr

/-- A lane behind a SKP set. -/
def afterSkp (l : List (Option Symbol)) : List (Option Symbol) := l.tail.dropWhile fun x => x == some Symbol.skp

/-- Take the ordered sets out of a frame (R135): a set begins with COM on either lane, and holds eight symbols on both unless it is a SKP set.
The fuel is the number of symbols. -/
def cutSets : Nat → Heard → Cut
  | 0, h => ⟨h, []⟩
  | n + 1, h =>
    let begins := fun l : List (Option Symbol) => l.head? == some (some Symbol.com)
    let skips := fun l : List (Option Symbol) => l.tail.head? == some (some Symbol.skp)
    if begins h.lane0 || begins h.lane1 then
      if skips h.lane0 || skips h.lane1 then cutSets n ⟨afterSkp h.lane0, afterSkp h.lane1⟩
      else
        let r := cutSets n ⟨h.lane0.drop 8, h.lane1.drop 8⟩
        { r with sets := ⟨h.lane0.take 8, h.lane1.take 8⟩ :: r.sets }
    else
      let r := cutSets n ⟨h.lane0.tail, h.lane1.tail⟩
      { r with frame := ⟨h.lane0.take 1 ++ r.frame.lane0, h.lane1.take 1 ++ r.frame.lane1⟩ }

/-- The frame and the sets of a reception. -/
def Heard.cut (h : Heard) : Cut := cutSets (h.lane0.length + h.lane1.length) h

/-- One lane's part of a frame: whether it began with SOF, its bytes (none for a symbol error, R131), and its end symbol. -/
structure LaneFrame where
  start : Bool
  bytes : List (Option Byte)
  last  : Option Symbol
  deriving DecidableEq, Repr

/-- The part of a frame on a lane. -/
def laneFrame (l : List (Option Symbol)) : LaneFrame :=
  { start := l.head? == some (some Symbol.sof)
    bytes := l.tail.dropLast.map fun x => x.bind fun s => if s.k then none else some s.byte
    last := l.tail.getLast?.join }

/-- A lane's part without a symbol error, with EOF at its end. -/
def LaneFrame.clean (f : LaneFrame) : Bool := f.start && (f.bytes.all fun b => b.isSome) && f.last == some Symbol.eof

/-- Bounds on LEN by frame TYPE (Table 4-4). -/
def lenBounds (typ : BitVec 4) : Nat × Nat :=
  if typ = 1 then (8, 4160) else if typ = 2 then (2, 4096) else if typ = 3 then (14, 328) else if typ = 4 then (16, 16)
  else if typ = 9 then (12, 12) else (1, 0)

/-- Whether a frame's TYPE is one of Table 4-4 and its LEN suits it (R140, R142). -/
def goodLen (typ : BitVec 4) (n : Nat) : Bool :=
  decide (n % 2 = 0) && decide ((lenBounds typ).1 ≤ n) && decide (n ≤ (lenBounds typ).2)

/-- A number from little-endian bytes at a place. -/
def fieldAt (bs : List Byte) (off n : Nat) : Nat := leNat ((bs.drop off).take n)

/-- TYPE of a frame's bytes. -/
def frameType (bs : List Byte) : BitVec 4 := BitVec.ofNat 4 (fieldAt bs 0 1 / 16)

/-- LEN of a frame's bytes. -/
def frameLen (bs : List Byte) : Nat := fieldAt bs 4 2

/-- The frame of its bytes (Table 4-3). -/
def frameOf (bs : List Byte) : RxFrame :=
  { dst := BitVec.ofNat 6 (fieldAt bs 1 1), src := BitVec.ofNat 6 (fieldAt bs 2 1), seq := BitVec.ofNat 8 (fieldAt bs 3 1),
    aux := BitVec.ofNat 16 (fieldAt bs 6 2), win := BitVec.ofNat 32 (fieldAt bs 8 4), payload := (bs.drop 12).take (frameLen bs) }

/-- What a receiver makes of the symbols of a frame (R142, R143): it is good, bad for a REASON of Table 4-2, or void. The bytes of a
bad or void frame are those that followed SOF, none where a symbol error stands. -/
inductive Verdict where
  | good (typ : BitVec 4) (f : RxFrame)
  | bad (reason : Nat) (bytes : List (Option Byte))
  | void (bytes : List (Option Byte))
  deriving DecidableEq, Repr

/-- The judgement of R142 and R143 on a frame without the sets that cut into it. A symbol error comes first, then the CRC, then TYPE and
LEN. DESIGN CHOICE, log entry 97: EDB on one lane is enough for a void frame, and a frame that ends in neither EOF nor EDB counts as
one with a symbol error. -/
def judgeFrame (h : Heard) : Verdict :=
  let a := laneFrame h.lane0
  let b := laneFrame h.lane1
  let got := if a.start && b.start then joinBytes a.bytes b.bytes else []
  if a.last = some Symbol.edb ∨ b.last = some Symbol.edb then .void got
  else if !(a.clean && b.clean) then .bad 2 got
  else
    let bs := got.filterMap id
    let n := bs.length
    if a.bytes.length ≠ b.bytes.length ∨ n < 16 ∨ BitVec.ofNat 32 (fieldAt bs (n - 4) 4) ≠ crc32 (bs.take (n - 4)) then .bad 1 got
    else if n ≠ 16 + frameLen bs ∨ goodLen (frameType bs) (frameLen bs) = false then .bad 4 got
    else .good (frameType bs) (frameOf bs)

end Sys2Proof.Machine
end

