-- ==== Sys2Proof/Machine/Wire.lean ====
section
/-! DEFINITION. What a node sends on the Row Link and what it writes about faults: ordered sets, frames with their credit
and sequence numbers, EVENT frames, HALT sets, and fault records with their actions. -/

namespace Sys2Proof.Machine

/-- The state of a port. -/
def State.port (s : State) (p : Port) : PortSt :=
  match p with
  | .up => s.link.upPort
  | .dn => s.link.dnPort

/-- Change one port. -/
def modPort (p : Port) (f : PortSt → PortSt) : Prog :=
  modLink fun l =>
    match p with
    | .up => { l with upPort := f l.upPort }
    | .dn => { l with dnPort := f l.dnPort }

/-- Place of an ordered set in the order of R136. -/
def osetRank (typ : Nat) : Nat :=
  if typ = 0x20 then 0 else if typ = 0x21 then 1 else if typ = 0x31 then 2 else if typ = 0x30 ∨ typ = 0x32 then 3
  else if typ = 0x33 then 4 else 5

/-- A waiting set goes behind every set of its rank or an earlier one (R136). -/
def insertOset (o : OSet) : List OSet → List OSet
  | [] => [o]
  | q :: t => if osetRank o.typ.toNat < osetRank q.typ.toNat then o :: q :: t else q :: insertOset o t

/-- Queue an ordered set on a port whose link is up (R132, R135). A port without a link sends nothing but TRAIN and SKP sets (R137,
R165). -/
def sendOset (p : Port) (typ : Nat) (data : List Byte) : Prog :=
  modPort p fun q => if q.up then { q with osets := insertOset ⟨BitVec.ofNat 8 typ, data⟩ q.osets } else q

/-- Credit class of a frame TYPE (R160): 1 for TOK_A and TOK_B. -/
def creditClass1 (typ : BitVec 4) : Bool := typ == 2 || typ == 3

/-- Credit units of a payload of n bytes (R160). -/
def creditUnits (n : Nat) : Nat := ceilDiv (16 + n) 64

/-- Buffer of a class in units (R161). -/
def advertised (class1 : Bool) : Nat := if class1 then 1024 else 256

/-- Whether a port may start a frame of a TYPE and length (R150, R163, R168). -/
def PortSt.canStart (q : PortSt) (typ : BitVec 4) (len : Nat) : Bool :=
  let c := creditClass1 typ
  let sent := if c then q.txUnits1 else q.txUnits0
  let rel := if c then q.txRel1 else q.txRel0
  q.up && !q.disabled && decide (q.replay.length < 64) && decide ((sent - rel).toNat + creditUnits len ≤ advertised c)

/-- Start a frame: it takes the port's SEQ and its units, goes onto the lanes and stays in the replay buffer (R148, R150, R163). -/
def PortSt.start (q : PortSt) (f : TxFrame) : PortSt :=
  let u := BitVec.ofNat 16 (creditUnits f.payload.length)
  { q with
    txSeq := q.txSeq + 1
    replay := q.replay ++ [{ f with seq := q.txSeq, holds := none }]
    sent := q.sent ++ [.frame { f with seq := q.txSeq, holds := none }]
    txUnits0 := if creditClass1 f.typ then q.txUnits0 else q.txUnits0 + u
    txUnits1 := if creditClass1 f.typ then q.txUnits1 + u else q.txUnits1 }

/-- The place of a waiting frame: class 0 overtakes class 1 frames that have not started (R149). -/
def insertFrame (f : TxFrame) : List TxFrame → List TxFrame
  | [] => [f]
  | g :: t => if creditClass1 g.typ && !creditClass1 f.typ then f :: g :: t else g :: insertFrame f t

/-- Send the CREDIT set of a class: the units released so far (R162). -/
def sendCredit (p : Port) (class1 : Bool) : Prog :=
  .look fun s =>
    let n := (if class1 then (s.port p).rxRel1 else (s.port p).rxRel0).toNat
    sendOset p 0x33 [if class1 then 1 else 0, BitVec.ofNat 8 n, BitVec.ofNat 8 (n / 256), 0, 0]

/-- Release the units of a received frame and report them (R162, R164). -/
def releaseUnits (p : Port) (class1 : Bool) (units : Nat) : Prog :=
  .seq (modPort p fun q =>
      if class1 then { q with rxRel1 := q.rxRel1 + BitVec.ofNat 16 units }
      else { q with rxRel0 := q.rxRel0 + BitVec.ofNat 16 units })
    (sendCredit p class1)

/-- Release the buffer that a frame occupied on its incoming port, when it was forwarded (R164). -/
def releaseHeld (f : TxFrame) : Prog :=
  match f.holds with
  | none => .skip
  | some p => releaseUnits p (creditClass1 f.typ) (creditUnits f.payload.length)

/-- What consumed a token frame has no more use for its units. The units of a half whose copy still waits on the opposite port stay with that copy
until it leaves (R164). -/
def releaseToken (p : Port) (typs : List (BitVec 4)) (src : BitVec 6) (pair : BitVec 16) (units : Nat) : Prog :=
  .look fun s =>
    let copy := fun f : TxFrame => decide (f.typ ∈ typs) && f.src == src && f.aux == pair && f.dst == 0x3F && f.holds.isNone
    let kept := (((s.port p.opposite).waiting.filter copy).map fun f => creditUnits f.payload.length).sum
    if kept = 0 then releaseUnits p true units
    else .seq (modPort p.opposite fun q => { q with waiting := q.waiting.map fun f => if copy f then { f with holds := some p } else f })
      (Prog.when (decide (kept < units)) (releaseUnits p true (units - kept)))

/-- Send a frame, or keep it until the port is free and holds credit (R147, R149). A frame for a port whose link is down goes nowhere
(log entry 83). -/
def sendFrame (p : Port) (f : TxFrame) : Prog :=
  .look fun s =>
    if !(s.port p).up then releaseHeld f
    else if (s.port p).canStart f.typ f.payload.length && (s.port p).waiting.all (fun g => creditClass1 g.typ && !creditClass1 f.typ) then
      .seq (modPort p fun q => q.start f) (releaseHeld f)
    else modPort p fun q => { q with waiting := insertFrame f q.waiting }

/-- The first waiting frame of a port leaves, if the port can start it (R149). -/
def sendWaiting (p : Port) : Prog :=
  .look fun s =>
    match (s.port p).waiting with
    | [] => .skip
    | f :: rest =>
      Prog.when ((s.port p).canStart f.typ f.payload.length) (.seq (modPort p fun q => { (q.start f) with waiting := rest }) (releaseHeld f))

/-- A frame of this node: TYPE, DST, AUX, WIN and payload (Table 4-3). -/
def ownFrame (s : State) (typ : BitVec 4) (dst : BitVec 6) (aux : BitVec 16) (win : Word) (payload : List Byte) : TxFrame :=
  { typ := typ, dst := dst, src := s.link.addr, seq := 0, aux := aux, win := win, payload := payload, resends := 0, holds := none }

/-- Send a frame of this node on a port. -/
def sendOwn (p : Port) (typ : BitVec 4) (dst : BitVec 6) (aux : BitVec 16) (win : Word) (payload : List Byte) : Prog :=
  .look fun s => sendFrame p (ownFrame s typ dst aux win payload)

/-- A packet as the payload of a PKT frame: padded to even length (Table 4-4). -/
def padEven (bs : List Byte) : List Byte := if bs.length % 2 = 0 then bs else bs ++ [0]

/-- Payload of an EVENT frame (Table 4-8). -/
def eventPayload (code : Nat) (tick data : Word) : List Byte := leBytes 2 code ++ [0, 0] ++ wordBytes tick ++ wordBytes data

/-- FHALT or LATCH has changed: send the HALT set three times on each port whose link is up (R191, R636, R697). -/
def sendHalt : Prog :=
  .seq (modLink fun l => { l with hseqTx := l.hseqTx + 1 })
    (.look fun s =>
      let assert := s.rfx.latch != 0 || s.rfx.fhalt
      let set : List Byte :=
        [s.link.addr.setWidth 8, if assert then 0 else 1, if assert then s.rfx.latch.setWidth 8 else 0, s.link.hseqTx, 0]
      .seq (Prog.times 3 (sendOset .up 0x21 set)) (Prog.times 3 (sendOset .dn 0x21 set)))

/-- Set FHALT and drive HALT_N (R697). A HALT set follows when FHALT was 0. -/
def setFhalt : Prog :=
  .look fun s => Prog.when (!s.rfx.fhalt)
    (Prog.all [modRfx fun r => { r with fhalt := true }, sendHalt, setFlag .irqHalt])

/-- Next SEQ of a fault record: modulo 65,536, skipping 0 (R689). -/
def nextSeq (n : Nat) : Nat := if n = 65535 then 1 else n + 1

/-- The place of the record that a new condition merges into: the newest held one (R688). -/
def mergesInto (log : List FltRec) (code : BitVec 16) (src : Nat) (tick : Word) : Bool :=
  match log.getLast? with
  | none => false
  | some r => r.code == code && r.src == src && r.tick == tick

/-- One more occurrence of the newest record (R688). -/
def mergeLast (log : List FltRec) : List FltRec :=
  match log.getLast? with
  | none => log
  | some r => log.dropLast ++ [{ r with repeats := min (r.repeats + 1) 255 }]

/-- Set bits of the newest held record. -/
def editLast (f : FltRec → FltRec) (log : List FltRec) : List FltRec :=
  match log.getLast? with
  | none => log
  | some r => log.dropLast ++ [f r]

/-- Whether a code is a row record's (R695). -/
def isRowCode (code : BitVec 16) : Bool := code.getLsbD 15

/-- An EVENT frame leaves on UP for address 1 (R193). -/
def sendEventFrame (code : Nat) (data : Word) : Prog :=
  .look fun s => sendOwn .up 9 1 0 0 (eventPayload code s.tick.num data)

/-- Append a new record and its log bookkeeping (R689, R690). -/
def appendRecord (c : Cond) (tick : Word) : Prog :=
  Prog.all [
    .look fun s => Prog.when (decide (256 ≤ s.flt.log.length))
      (.seq (modFlt fun f => { f with log := f.log.tail }) (setFlag .logOvf)),
    modFlt fun f => { f with
      log := f.log ++ [{ code := c.code, sev := c.sev, irq := true, halt := false, level := c.code == 0x0201, src := c.src,
                         tick := tick, data := c.data, seq := f.seq, repeats := 0 }]
      seq := nextSeq f.seq },
    .reg Reg.fltLast (place c.sev 17 16 ||| place c.code.toNat 15 0),
    addSat Reg.fltCnt1 15 0 1,
    setFlag .irqFault]

/-- Actions 2, 4 and 5 of Table 18-3 for the newest record. A row record and ROM-only service take action 1 only (R111, R695). -/
def recordActions (c : Cond) : Prog :=
  .look fun s => Prog.when (!isRowCode c.code && !s.romOnly) (Prog.all [
    Prog.when (decide (2 ≤ c.sev) && s.flag Reg.fltHaltEn (c.code.toNat / 256 % 16))
      (.seq (modFlt fun f => { f with log := editLast (fun r => { r with halt := true }) f.log }) setFhalt),
    .look fun t => Prog.when (!t.isHead && decide (t.fld Reg.fltCtrl 1 0 ≤ c.sev))
      (match t.flt.log.getLast? with
        | none => .skip
        | some r => sendEventFrame 1 (place r.seq 31 16 ||| place c.code.toNat 15 0)),
    .look fun t => Prog.when (decide (t.fld Reg.fltCtrl 5 4 ≤ c.sev))
      (modFlt fun f => { f with copies := f.copies ++ (f.log.getLast?).toList })])

/-- Write the record of a condition, or merge it into the newest one, and take its actions (R687, R688, R693). -/
def writeRecord (c : Cond) : Prog :=
  .look fun s =>
    let tick := c.tick.getD s.tick.num
    if mergesInto s.flt.log c.code c.src tick then modFlt fun f => { f with log := mergeLast f.log }
    else .seq (appendRecord c tick) (recordActions c)

/-- Whether the record of a boot still waits: it is the first of the log (Table 18-1). -/
def State.bootRecordDue (s : State) : Bool := !s.keeperUp || s.flt.conds.any fun c => c.code == 0x0F01

/-- The head logs an EVENT as a row record (R695) and sets the causes of Table 5-8 that belong to its code. Before the RESET record of
the boot is written, a row record waits behind it (R684). ROM-only service writes no record (R111). -/
def logEvent (code : BitVec 16) (src : Nat) (tick data : Word) : Prog :=
  let c : Cond := { code := code ||| 0x8000, sev := 0, src := src, data := data, tick := some tick }
  Prog.all [
    .look fun s => Prog.when (!s.romOnly) (if s.bootRecordDue then modFlt fun f => { f with conds := f.conds ++ [c] } else writeRecord c),
    setFlag .irqEvent,
    setFlagIf (code == 0x0301) .irqPresence,
    setFlagIf (code == 0x0302) .irqGesture]

end Sys2Proof.Machine
end

