-- ==== Sys2Proof/Machine/Reply.lean ====
section
/-! DEFINITION. Requests and replies: the reply packet, the tag windows, the head's outstanding requests and its reply queue,
and the order of checks that every opcode shares. -/

namespace Sys2Proof.Machine

/-- Status codes (Table 5-5). -/
abbrev St.ok : Nat := 0x00
abbrev St.busy : Nat := 0x01
abbrev St.badCrc : Nat := 0x02
abbrev St.badOpcode : Nat := 0x03
abbrev St.badParam : Nat := 0x04
abbrev St.badAddr : Nat := 0x05
abbrev St.nothingStaged : Nat := 0x06
abbrev St.checkFail : Nat := 0x07
abbrev St.nvmFail : Nat := 0x08
abbrev St.denied : Nat := 0x09
abbrev St.timeout : Nat := 0x0A
abbrev St.noRoute : Nat := 0x0B
abbrev St.calReject : Nat := 0x0C
abbrev St.lost : Nat := 0x0D
abbrev St.replayed : Nat := 0x0E

/-- The opcodes that a broadcast may carry (R224). -/
def broadcastOps : List Nat := [0x01, 0x13, 0x16, 0x19, 0x1A, 0x1B, 0x1C, 0x22]

/-- The opcodes that ROM-only service answers (R111). -/
def romOps : List Nat := [0x01, 0x02, 0x28, 0x3F, 0x22, 0x3E]

/-- The opcodes of Table 5-4. -/
def knownOps : List Nat :=
  [0x01, 0x02, 0x03, 0x08, 0x09, 0x0A, 0x0C, 0x0D, 0x10, 0x11, 0x12, 0x13, 0x14, 0x15, 0x16, 0x18, 0x19, 0x1A, 0x1B, 0x1C,
   0x20, 0x21, 0x22, 0x24, 0x28, 0x29, 0x30, 0x3E, 0x3F]

/-- A reply packet (Table 5-3, R210). -/
def replyPacket (src op : Nat) (tag : Byte) (status : Nat) (payload : List Byte) : List Byte :=
  let body := leBytes 1 src ++ leBytes 1 op ++ [tag] ++ leBytes 1 status ++ leBytes 2 payload.length ++ payload
  0x5A :: body ++ leBytes 2 (crc16 body).toNat

/-- STATUS of a reply packet. -/
def replyStatus (bs : List Byte) : Nat := field bs 4 1

/-- A remembered reply as it is sent again: OK becomes REPLAYED (R228). -/
def replayOf (bs : List Byte) : List Byte :=
  if replyStatus bs = St.ok then
    replyPacket (field bs 1 1) (field bs 2 1) (BitVec.ofNat 8 (field bs 3 1)) St.replayed ((bs.drop 7).dropLast.dropLast)
  else bs

/-- The tag window of a path (R227). -/
def Hp.window (h : Hp) : Path → List TagEntry
  | .host => h.winHost
  | .row => h.winRow

/-- Change the tag window of a path. -/
def modWindow (p : Path) (f : List TagEntry → List TagEntry) : Prog :=
  modHp fun h =>
    match p with
    | .host => { h with winHost := f h.winHost }
    | .row => { h with winRow := f h.winRow }

/-- A TAG is received: it becomes the newest of at most eight entries (R227). A known TAG keeps its entry's reply. -/
def touchTag (tag : Byte) (w : List TagEntry) : List TagEntry :=
  match w.find? fun e => e.tag == tag with
  | some e => w.filter (fun x => x.tag != tag) ++ [e]
  | none => (if 8 ≤ w.length then w.tail else w) ++ [⟨tag, none⟩]

/-- A request has completed: its entry remembers the reply (R227). -/
def rememberReply (tag : Byte) (bytes : List Byte) (w : List TagEntry) : List TagEntry :=
  w.map fun e => if e.tag == tag then { e with reply := some bytes } else e

/-- The destination under which the head counts a request: DEST 0 and 1 both name the head (Table 5-7). -/
def countedDest (dest : BitVec 6) : BitVec 6 := if dest == 0 then 1 else dest

/-- Put a reply into the reply queue (R232); one that answers an outstanding request marks it. -/
def queueReply (bytes : List Byte) (dest : BitVec 6) (tag : Byte) (owns : Bool) : Prog :=
  modHp fun h => { h with
    queue := h.queue ++ [{ bytes := bytes, dest := dest, tag := tag, owns := owns }]
    out := if owns then h.out.map (fun o => if o.dest == dest && o.tag == tag && !o.queued then { o with queued := true } else o)
           else h.out }

/-- The reply to a broadcast whose statuses stand (R225): payload byte a - 1 holds the status of address a. -/
def broadcastReply (o : OutReq) : List Byte :=
  let stat := fun a => ((o.got.find? fun g => g.1 == a).map fun g => g.2.toNat).getD St.timeout
  let all := (List.range o.rowLen).map fun i => stat (i + 1)
  replyPacket 1 o.opcode.toNat o.tag ((all.find? fun x => x != St.ok).getD St.ok) (all.map fun x => BitVec.ofNat 8 x)

/-- Close a broadcast: queue its one reply (R225). The head answers TIMEOUT when that is the reply's STATUS (Table 5-8). -/
def closeBroadcast (o : OutReq) : Prog :=
  .seq (queueReply (broadcastReply o) 0x3F o.tag true)
    (setFlagIf (replyStatus (broadcastReply o) == St.timeout) .irqTimeout)

/-- A status for a broadcast arrives from an address; the last one closes the broadcast (R225). -/
def broadcastStatus (tag : Byte) (addr : Nat) (status : Byte) : Prog :=
  .seq (modHp fun h => { h with out := h.out.map fun o =>
      if o.dest == 0x3F && o.tag == tag && !o.queued && !(o.got.any fun g => g.1 == addr) then { o with got := o.got ++ [(addr, status)] }
      else o })
    (.look fun s =>
      match s.hp.out.find? fun o => o.dest == 0x3F && o.tag == tag && !o.queued with
      | none => .skip
      | some o => Prog.when ((List.range o.rowLen).all fun i => o.got.any fun g => g.1 == i + 1) (closeBroadcast o))

/-- Send the reply to a request with an opcode on the path the request came by (R223, R225, R232). The reply of another opcode under the
same TAG may be the remembered one (R228). -/
def sendReply (op : Nat) (r : Req) (bytes : List Byte) : Prog :=
  .look fun s =>
    match r.path with
    | .row => sendOwn .up 1 1 0 0 (padEven bytes)
    | .host =>
      if r.bcast && decide (op ∈ broadcastOps) then
        broadcastStatus r.tag s.link.addr.toNat (BitVec.ofNat 8 (replyStatus bytes))
      else queueReply bytes (if r.bcast then 0x3F else if s.isHead then 1 else s.link.addr) r.tag true

/-- A request completes: its reply is remembered and sent (R227). -/
def complete (r : Req) (op status : Nat) (payload : List Byte) : Prog :=
  .look fun s =>
    let bytes := replyPacket s.link.addr.toNat op r.tag status payload
    .seq (modWindow r.path (rememberReply r.tag bytes)) (sendReply op r bytes)

/-- What an opcode comes to after its checks: a reply now with the effects that precede it, or a reply that follows later. -/
inductive Answer where
  | now (status : Nat) (payload : List Byte) (effect : Prog)
  | later (effect : Prog)

/-- An answer without payload or effect. -/
def Answer.just (status : Nat) : Answer := .now status [] .skip

/-- Whether the node answers packets at all (R105, R106, R111, R112). -/
def State.answers (s : State) : Bool := s.keeperUp || s.romOnly || s.pwr.phase == .hostBoot

/-- Steps 7 and 8 of Table 5-6 so far as they are common to all opcodes: the opcode, broadcasts, and ROM-only service. Host
boot answers as ROM-only service does: DEDUCED, log entry 15. -/
def commonCheck (s : State) (op : Nat) (r : Req) : Option Nat :=
  if op ∉ knownOps then some St.badOpcode
  else if r.bcast && decide (op ∉ broadcastOps) then some St.badParam
  else if !s.keeperUp && decide (op ∉ romOps) then some St.denied
  else none

/-- Carry an answer out: its effect, then the reply, or a reply that follows later. -/
def giveAnswer (op : Nat) (r : Req) : Answer → Prog
  | .now st payload effect => .seq effect (complete r op st payload)
  | .later effect => effect

/-- The payload of an answer that the common checks give: Table 5-4 gives LOAD_IMAGE's BAD_PARAM one, where no entry is at fault the 0xFFFF of the
header (R211; log entry 101). -/
def checkPayload (op status : Nat) : List Byte :=
  if op = 0x18 ∧ status = St.badParam then leBytes 2 0xFFFF ++ [0, 0] else []

/-- A request waits for its turn (R32). -/
def park (op : Nat) (r : Req) : Prog := modHp fun h => { h with parked := h.parked ++ [(op, r)] }

/-- Execute a request from step 7 of Table 5-6 on. Behind one that waits for its turn it waits too (R32). -/
def answer (s : State) (op : Nat) (f : State → Req → Answer) (r : Req) : Prog :=
  if !s.hp.parked.isEmpty then park op r
  else
    match commonCheck s op r with
    | some st => complete r op st (checkPayload op st)
    | none => giveAnswer op r (f s r)

/-- Execute a request from step 6 of Table 5-6 on: the tag window, then the checks and the opcode's own answer. -/
def serve (op : Nat) (f : State → Req → Answer) (r : Req) : Prog :=
  .look fun s => Prog.when s.answers (
    let known := (s.hp.window r.path).find? fun e => e.tag == r.tag
    .seq (modWindow r.path (touchTag r.tag)) (
      match known with
      | some ⟨_, some bytes⟩ => .seq (addSat Reg.hpCnt5 31 16 1) (sendReply op r (replayOf bytes))
      | some ⟨_, none⟩ => addSat Reg.hpCnt5 15 0 1
      | none => answer s op f r))

/-- ROW_LEN changes on the head. Requests to addresses that fall out of the row are answered LOST (R226). -/
def setRowLen (n : Nat) : Prog :=
  .look fun s =>
    .seq (modLink fun l => { l with rowLen := n })
      (Prog.each (s.hp.out.filter fun o => o.dest != 0x3F && !o.queued && decide (n < o.dest.toNat) && decide (2 ≤ o.dest.toNat))
        fun o => queueReply (replyPacket 1 o.opcode.toNat o.tag St.lost []) o.dest o.tag true)

/-- The head logs an EVENT and acts on its code (R170, R181, R695, R696). -/
def headEvent (code : BitVec 16) (src : Nat) (tick data : Word) : Prog :=
  .seq (logEvent code src tick data)
    (if code = 0x0101 then setRowLen data.toNat
     else if code = 0x0102 then setFlag .rowChange
     else if code = 0x0001 then Prog.when (decide (1 ≤ src ∧ src ≤ 32)) (recordRc Reg.fltRow fun w => w ||| placeBit true (src - 1))
     else .skip)

/-- Send an EVENT to the head (R193, R699). The head takes its own EVENTs itself: DEDUCED, log entry 14. -/
def sendEvent (code : Nat) (data : Word) : Prog :=
  .look fun s =>
    if s.isHead then headEvent (BitVec.ofNat 16 code) s.link.addr.toNat s.tick.num data else sendEventFrame code data

end Sys2Proof.Machine
end

