-- ==== Sys2Proof/Machine/Stage.lean ====
section
/-! DEFINITION. The staging bank (R236 to R240): shadows, prospective values and masked writes. -/

namespace Sys2Proof.Machine

/-- The shadow of a register in a list of touched registers. -/
def shadowOf (l : List (Nat × Word)) (a : Nat) : Option Word := (l.find? fun e => e.1 == a).map fun e => e.2

/-- The prospective word of a register (R238): its shadow, else the pending set's, else its live word. Direct fields are
live ones. -/
def State.prospective (s : State) (a : Nat) : Word :=
  let w := ((shadowOf s.stg.bank a).or (s.stg.pend.bind fun p => shadowOf p.regs a)).getD (s.stored a)
  masked (s.stored a) (stagedMask a) w

/-- The word that a set starts from: the live one with any pending set applied (R237, R258). -/
def State.starting (s : State) (a : Nat) : Word :=
  masked (s.stored a) (stagedMask a) ((s.stg.pend.bind fun p => shadowOf p.regs a).getD (s.stored a))

/-- Put a shadow into a bank, in ascending address. -/
def putShadow (a : Nat) (w : Word) : List (Nat × Word) → List (Nat × Word)
  | [] => [(a, w)]
  | (b, x) :: t => if a < b then (a, w) :: (b, x) :: t else if a = b then (a, w) :: t else (b, x) :: putShadow a w t

/-- A masked write into the staging bank (R216, R237). It touches the register. -/
def stageMasked (a : Nat) (mask value : Word) : Prog :=
  .look fun s =>
    modStg fun g => { g with bank := putShadow a (masked (s.prospective a) (mask &&& stagedMask a) value &&& stagedMask a) g.bank }

end Sys2Proof.Machine
end

