-- ==== Sys2Proof/Machine/Adc.lean ====
section
/-! DEFINITION. Analog acquisition (chapter 15) with the cross check and system calibration (chapter 16): triggers, results,
the ADC mover and its sample page, the reference. -/

namespace Sys2Proof.Machine

/-- Distance of a converter's registers from those of ADC A (Table 15-6). -/
def convBase : Conv → Nat
  | .a => 0
  | .b => 0x40

/-- The other converter. -/
def otherConv : Conv → Conv
  | .a => .b
  | .b => .a

/-- Both converters. -/
def convs : List Conv := [.a, .b]

/-- State of a converter. -/
def State.conv (s : State) : Conv → ConvSt
  | .a => s.adc.a
  | .b => s.adc.b

/-- Change a converter. -/
def modConv (c : Conv) (f : ConvSt → ConvSt) : Prog :=
  modAdc fun x =>
    match c with
    | .a => { x with a := f x.a }
    | .b => { x with b := f x.b }

/-- Whether a converter runs: not in KEEP, and not off after BIST (R623, R624). -/
def State.convRuns (s : State) (c : Conv) : Bool :=
  s.pwr.level != .keep &&
    (match c with
      | .a => s.pwr.adcAOk
      | .b => s.pwr.adcBOk)

/-- REG_CTRL of a converter. -/
def regCtrl (c : Conv) : Nat := Reg.adcARegCtrl + convBase c

/-- INJ_CTRL of a converter. -/
def injCtrl (c : Conv) : Nat := Reg.adcAInjCtrl + convBase c

/-- SMP and CH of entry n of a sequence whose first SEQ register is given (Table 15-6). -/
def seqEntry (word : Nat → Word) (first n : Nat) : Nat × Nat :=
  let w := word (first + 4 * (n / 4))
  (bits w (8 * (n % 4) + 6) (8 * (n % 4) + 5), bits w (8 * (n % 4) + 4) (8 * (n % 4)))

/-- Entries of a regular sequence as (SMP, CH), from register words (R598). -/
def regularEntries (word : Nat → Word) (c : Conv) : List (Nat × Nat) :=
  let ctrl := word (regCtrl c)
  if bit ctrl 30 then
    ((List.range 23).filter fun n => bit (word (Reg.adcAScan + convBase c)) n).map fun n => (bits ctrl 9 8, n)
  else (List.range (bits ctrl 19 16 + 1)).map fun n => seqEntry word (Reg.adcASeq0 + convBase c) n

/-- Entries of an injected sequence (R601). -/
def injectedEntries (word : Nat → Word) (c : Conv) : List (Nat × Nat) :=
  (List.range (min 4 (bits (word (injCtrl c)) 18 16))).map fun n => seqEntry word (Reg.adcAInjSeq + convBase c) n

/-- REG_DROP of a converter. -/
def regDropFlag : Conv → Flag
  | .a => .regDropA
  | .b => .regDropB

/-- INJ_DROP of a converter. -/
def injDropFlag : Conv → Flag
  | .a => .injDropA
  | .b => .injDropB

/-- OVR of a converter. -/
def ovrFlag : Conv → Flag
  | .a => .ovrA
  | .b => .ovrB

/-- Data register of a converter. -/
def dataReg : Conv → Nat
  | .a => Reg.adcAData
  | .b => Reg.adcBData

/-- The cross check is on (R644). -/
def State.crossOn (s : State) : Bool := s.flag Reg.adcCross 31

/-- A conversion begins to sample: it notes whether REF_READY is 0 (R593). -/
def sampleNow (s : State) (k : ConvSt) : ConvSt := { k with refnr := !s.adc.refReady }

/-- The start of the ADC clock in which the node is: its 40 ns clocks restart at each tick edge (R594, R597). -/
def State.adcClock (s : State) : Nat := s.adc.origin + 40 * ((s.now - s.adc.origin) / 40)

/-- A regular sequence starts (R596, R599); `clk` is the ADC clock of the trigger that starts it at once. -/
def startRegular (c : Conv) (cross : Bool) (clk : Option Nat) : Prog :=
  .look fun s => Prog.when (cross || !(regularEntries s.stored c).isEmpty)
    (modConv c fun k => sampleNow s
      { k with reg := some { idx := 0, cross := cross, crossVoid := false, tick := s.tick.num, clk := clk }, held := none })

/-- A regular trigger reaches a converter whose sequence is enabled (Table 15-2). Triggers of one ADC clock are one (R605). -/
def regularTrigger (c : Conv) (edge : Bool) : Prog :=
  .look fun s =>
    let k := s.conv c
    if !(s.convRuns c && s.flag (regCtrl c) 31) || k.regClk == some s.adcClock then .skip
    else .seq (modConv c fun x => { x with regClk := some s.adcClock }) <|
    if k.reg.isSome || k.held.isSome then setFlag (regDropFlag c)
    else if k.inj.isSome then modConv c fun x => { x with held := some edge }
    else startRegular c false (some s.adcClock)

/-- The outcome of a cross check goes to its registers; a fail, or an omitted check under STRICT, sets CROSS_FAIL and marks
the tick (R645, R646). `result` is 0 pass, 1 fail, 2 omitted. -/
def crossOutcome (result diff : Nat) (tick : Word) : Prog :=
  .look fun s =>
    let stat := place (tick.toNat % 65536) 31 16 ||| place diff 15 4 ||| place result 1 0
    .seq (.reg Reg.adcCrossStat stat)
      (Prog.when (result == 1 || (result == 2 && s.flag Reg.adcCross 30)) (Prog.all [
        setFlag .crossFail, raise 0x0B01 2 stat,
        Prog.when (decide (tick = s.tick.num)) (modTick fun t => { t with untrusted := true })]))

/-- The cross entry is omitted without two results: DIFF is not stated and is free (R607, R608, R645; log entry 9). -/
def crossOmitted (tick : Word) : Prog :=
  Prog.all [
    modAdc fun x => { x with crossA := none, crossB := none, crossDue := none }, setFlag .crossSkip,
    .look fun s => crossOutcome 2 (Config.freeCount s.free % 4096) tick, .draw]

/-- A pending cross entry ends on both converters (R608): the pre-empted one resumes at entry 0, the other completes its
cross conversion without a result. -/
def endCross (c : Conv) : Prog :=
  .look fun s =>
    match (s.conv c).reg with
    | none => .skip
    | some r => Prog.when r.cross <|
      if r.crossVoid then modConv c fun k => { k with reg := k.reg.map fun r => { r with cross := false, crossVoid := false } }
      else Prog.all [
        modConv c fun k => { k with reg := k.reg.map fun r => { r with cross := false } },
        modConv (otherConv c) fun k => { k with reg := k.reg.map fun r => if r.cross then { r with crossVoid := true } else r },
        crossOmitted r.tick]

/-- A regular sequence that started in the present ADC clock has met an injected trigger, which acts first (R605): the sequence is
held, and no converter runs the cross entry (R607). -/
def holdRegular (c : Conv) (r : RegRun) : Prog :=
  .seq (modConv c fun k => { k with reg := none, held := some r.cross })
    (Prog.when r.cross (.seq
      (modConv (otherConv c) fun k => { k with reg := k.reg.map fun r => { r with cross := false, crossVoid := false } })
      (crossOmitted r.tick)))

/-- What an injected trigger does to the regular sequence it pre-empts (R603, R605, R608). -/
def preemptRegular (c : Conv) : Prog :=
  .look fun s =>
    match (s.conv c).reg with
    | none => .skip
    | some r => if r.clk = some s.adcClock then holdRegular c r else endCross c

/-- An injected trigger reaches a converter (Table 15-2, R602). Triggers of one ADC clock are one (R605). -/
def injectedTrigger (c : Conv) : Prog :=
  .look fun s =>
    if !(s.convRuns c && s.flag (injCtrl c) 31) || (injectedEntries s.stored c).isEmpty || (s.conv c).injClk == some s.adcClock then .skip
    else .seq (modConv c fun x => { x with injClk := some s.adcClock }) <|
    if (s.conv c).inj.isSome then setFlag (injDropFlag c)
    else .seq (preemptRegular c) (modConv c fun k => sampleNow s { k with inj := some 0 })

/-- Comparators cross: each converter whose CMP field names one of them takes one injected trigger (R602, R605). -/
def comparatorTrigger (mask : Nat) : Prog :=
  Prog.each [Conv.a, Conv.b] fun c =>
    .look fun s => Prog.when (decide (s.fld (injCtrl c) 3 0 &&& mask ≠ 0)) (injectedTrigger c)

/-- The ADC clock restarts at an edge, and with it what belongs to one ADC clock (R597, R605). -/
def restartClock : Prog :=
  .look fun s => .seq (modAdc fun x => { x with origin := s.now })
    (Prog.each convs fun c => modConv c fun k => { k with regClk := none, injClk := none })

/-- Step 4 of an edge, and a pass end: the edge triggers, with the cross entry when both converters start together, or hold their triggers both
(R599, R605 to R607). -/
def edgeTrigger : Prog :=
  .look fun s =>
    let ready := fun c => s.convRuns c && s.flag (regCtrl c) 31 && s.flag (regCtrl c) 29 && (s.conv c).reg.isNone && (s.conv c).held.isNone
    let idle := fun c => ready c && (s.conv c).inj.isNone
    let busy := fun c => ready c && (s.conv c).inj.isSome
    let cross := s.crossOn && s.pwr.level != .keep
    if cross && idle .a && idle .b then Prog.all [
      startRegular .a true (some s.adcClock), startRegular .b true (some s.adcClock),
      Prog.each convs fun c => modConv c fun k => { k with regClk := some s.adcClock }]
    else Prog.all [
      Prog.each convs fun c => Prog.when (s.convRuns c && s.flag (regCtrl c) 31 && s.flag (regCtrl c) 29) (regularTrigger c true),
      Prog.when cross
        (if busy .a && busy .b then modAdc fun x => { x with crossDue := some { tick := s.tick.num, clk := none } } else crossOmitted s.tick.num)]

/-- The sequence that a converter holds starts. Where both hold edge triggers, the cross entry runs if the second starts in the ADC clock of the
first, and is omitted if not (R604, R607). -/
def startHeld (c : Conv) : Prog :=
  .look fun s =>
    let o := s.conv (otherConv c)
    match s.adc.crossDue with
    | none => startRegular c false none
    | some d =>
      if d.clk = none then .seq (startRegular c false none) (modAdc fun x => { x with crossDue := some { d with clk := some s.adcClock } })
      else if d.clk = some s.adcClock ∧ o.inj = none ∧ o.reg.isSome then Prog.all [
        startRegular c true none,
        modConv (otherConv c) fun k => { k with reg := k.reg.map fun r => { r with cross := true } },
        modAdc fun x => { x with crossDue := none }]
      else .seq (startRegular c false none) (crossOmitted d.tick)

/-- A cross entry that both converters held is omitted once they can no longer start together: the ADC clock of the first start is over, or a
trigger is held no more (R607). `past`: that clock is over in any case. -/
def crossLapse (past : Bool) : Prog :=
  .look fun s =>
    match s.adc.crossDue with
    | none => .skip
    | some d =>
      let gone := match d.clk with
        | some k => past || k != s.adcClock
        | none => !(s.adc.a.held == some true && s.adc.b.held == some true)
      Prog.when gone (crossOmitted d.tick)

/-- A data word (Table 15-3). -/
def dataWord (c : Conv) (entry ch result : Nat) (cross cal refnr inj : Bool) : Word :=
  placeBit true 31 ||| place entry 28 25 ||| placeBit (c == .b) 24 ||| placeBit cross 23 ||| placeBit cal 22 |||
    placeBit refnr 21 ||| placeBit inj 20 ||| place ch 16 12 ||| place result 11 0

/-- The corrected code (R614). -/
def correctedCode (coeff : Word) (raw : Nat) : Nat :=
  let off := signed 16 (bits coeff 31 16)
  let v := roundDivInt ((Int.ofNat raw - off) * Int.ofNat (bits coeff 15 0)) 16384
  (max 0 (min 4095 v)).toNat

/-- Whether calibration of a converter is in force (R653). -/
def State.calibrated (s : State) (c : Conv) : Bool := s.flag Reg.adcCalEn (convIndex c)

/-- The word that a raw code becomes (R593, R614). -/
def resultWord (s : State) (c : Conv) (entry ch raw : Nat) (cross inj : Bool) : Word :=
  let refnr := (s.conv c).refnr
  let cal := s.calibrated c && !refnr
  dataWord c entry ch (if cal then correctedCode (s.stored (Reg.adcACal + 4 * convIndex c)) raw else raw) cross cal refnr inj

/-- The event counter of OVR (Table 15-6): its lowest bit in ADC_CNT0. -/
def ovrBit : Conv → Nat
  | .a => 0
  | .b => 16

/-- The overruns of the present cycle that a read of the register undoes (R611): OVR and its count are as before them. -/
def undoOverrun (c : Conv) : Prog :=
  .look fun s =>
    match s.cycle.ovr.find? fun o => o.conv == c with
    | none => .skip
    | some o => Prog.all [
        setFld Reg.adcFlags (convIndex c) (convIndex c) o.flag, setFld Reg.adcCnt0 (ovrBit c + 15) (ovrBit c) o.count,
        .note fun y => { y with
          ovr := y.ovr.filter fun x => x.conv != c
          counts := y.counts.filter fun x => !(x.reg == Reg.adcCnt0 && x.lo == ovrBit c)
          flags := y.flags.map fun x =>
            if x.1 = Reg.adcFlags ∧ o.flag = 0 then (x.1, x.2 &&& ~~~placeBit true (convIndex c)) else x }]

/-- A read of a data register clears VALID (R610); a result of the same cycle stands, and has overrun nothing (R611). -/
def readData (c : Conv) : Prog := .seq (undoOverrun c) (readEffect (dataReg c))

/-- The copy of a result to the page counts as its read (R613). -/
def copyData (c : Conv) : Prog :=
  .seq (setFld (dataReg c) 31 31 0)
    (.note fun y => { y with rc := y.rc.map fun r => if r.reg = dataReg c then { r with events := r.events &&& 0x7FFFFFFF } else r })

/-- The sample page and its shape words can be written at the present level (R621). -/
def State.pagePowered (s : State) : Bool := s.pwr.level != .keep && s.poweredAll (s.stored Reg.mvBase).toNat 8192

/-- A copied result of ADC B leaves the full page again to one of ADC A of the same ADC clock, and stays in its data register (R616, R617). -/
def yieldLast (at' : Nat) (w : Word) : Prog :=
  .look fun s => Prog.all [
    store32 at' w, modAdc fun x => { x with liveRefnr := (x.lastB.any fun l => l.2) || bit w 21, liveFull := true, lastB := none },
    setFld Reg.adcBData 31 31 1, setFlag .pageFull,
    Prog.when (decide (s.stored Reg.adcAData = w)) (copyData .a)]

/-- The mover appends a result of an ADC clock to the live page, or finds it full (R616, R617). Results of one ADC clock stand in the order A, B. The
copy counts as a read (R613). -/
def moverAppend (clk : Nat) (w : Word) : Prog :=
  .look fun s =>
    let c : Conv := if bit w 24 then .b else .a
    let before := c == .a && (s.adc.lastB.any fun l => l.1 == clk)
    let at' := (s.stored Reg.mvBase).toNat + 4 * s.adc.live
    if 1024 ≤ s.adc.live then
      (if before then yieldLast (at' - 4) w else .seq (setFlag .pageFull) (modAdc fun x => { x with liveFull := true }))
    else
      Prog.all [
        (if before then .seq (store32 at' (s.rd32 (at' - 4))) (store32 (at' - 4) w) else store32 at' w),
        modAdc fun x => { x with
          live := x.live + 1, liveRefnr := x.liveRefnr || bit w 21, lastB := if c == .b then some (clk, x.liveRefnr) else none },
        writeShape (s.stored Reg.mvShape).toNat (s.adc.live + 1),
        Prog.when (decide (s.stored (dataReg c) = w)) (copyData c)]

/-- The mover takes a delivered result when it serves the converter (R616, R619, R621). -/
def moverTake (c : Conv) (w : Word) : Prog :=
  .look fun s =>
    if !(s.flag Reg.mvCtrl (convIndex c) && s.pagePowered) then .skip
    else if s.adc.closing then
      Prog.when (decide (s.adc.waiting.length < 16)) (modAdc fun x => { x with waiting := x.waiting ++ [(s.adcClock, w)] })
    else moverAppend s.adcClock w

/-- A result overwrites one that has not been read (R612); the note serves a read of the same cycle (R611). -/
def overrun (c : Conv) : Prog :=
  .look fun s => .seq (setFlag (ovrFlag c))
    (.note fun y => { y with ovr := if y.ovr.any fun o => o.conv == c then y.ovr else
      y.ovr ++ [{ conv := c, flag := s.fld Reg.adcFlags (convIndex c) (convIndex c), count := s.fld Reg.adcCnt0 (ovrBit c + 15) (ovrBit c) }] })

/-- A result reaches its data register, and the mover (R609, R612). -/
def deliver (c : Conv) (w : Word) : Prog :=
  Prog.all [
    .look fun s => Prog.when (s.flag (dataReg c) 31) (overrun c), recordRc (dataReg c) fun _ => w, moverTake c w]

/-- Both cross results are in: they are compared (R644, R645). -/
def judgeCross (tick : Word) : Prog :=
  .look fun s =>
    match s.adc.crossA, s.adc.crossB with
    | some x, some y =>
      let a := bits x 11 0
      let b := bits y 11 0
      let d := if a < b then b - a else a - b
      Prog.all [
        modAdc fun q => { q with crossA := none, crossB := none },
        .reg Reg.adcCrossLast (place b 27 16 ||| place a 11 0),
        crossOutcome (if bit x 21 || bit y 21 then 2 else if d ≤ s.fld Reg.adcCross 11 0 then 0 else 1) d tick]
    | _, _ => .skip

/-- The cross conversion of a converter is done (R606, R608). -/
def crossDone (c : Conv) (r : RegRun) (raw : Nat) : Prog :=
  .look fun s =>
    let w := resultWord s c 0 (s.fld Reg.adcCross 20 16) raw true false
    .seq (if r.crossVoid then .skip else Prog.all [
        deliver c w,
        modAdc fun q => (match c with
          | .a => { q with crossA := some w }
          | .b => { q with crossB := some w }),
        judgeCross r.tick])
      (modConv c fun k => sampleNow s { k with reg := some { r with cross := false, crossVoid := false } })

/-- A regular conversion is done: its result, then the next entry or the end (R598, R600). -/
def regularDone (c : Conv) (r : RegRun) (raw : Nat) : Prog :=
  .look fun s =>
    let es := regularEntries s.stored c
    .seq (deliver c (resultWord s c r.idx (es[r.idx]?.getD (0, 0)).2 raw false false))
      (modConv c fun k => sampleNow s { k with reg := if r.idx + 1 < es.length then some { r with idx := r.idx + 1 } else none })

/-- An injected conversion is done. After the last one a suspended regular sequence resumes, or a held one starts (R604,
Table 15-2). -/
def injectedDone (c : Conv) (i raw : Nat) : Prog :=
  .look fun s =>
    let es := injectedEntries s.stored c
    let last := decide (es.length ≤ i + 1)
    Prog.all [
      deliver c (resultWord s c i (es[i]?.getD (0, 0)).2 raw false true),
      modConv c fun k => sampleNow s { k with inj := if last then none else some (i + 1) },
      .look fun t => Prog.when (last && (t.conv c).reg.isNone && (t.conv c).held.isSome) (startHeld c)]

/-- The channel that a converter converts: of its injected entry, of the cross entry, or of its regular entry. -/
def State.convChannel (s : State) (c : Conv) : Nat :=
  match (s.conv c).inj, (s.conv c).reg with
  | some i, _ => ((injectedEntries s.stored c)[i]?.getD (0, 0)).2
  | none, some r => if r.cross then s.fld Reg.adcCross 20 16 else ((regularEntries s.stored c)[r.idx]?.getD (0, 0)).2
  | none, none => 0

/-- The sampling extension of a converter's running conversion: of its injected entry, SMP 0 for the cross entry, or of its regular entry
(R606, R722). -/
def State.convSmp (s : State) (c : Conv) : Nat :=
  match (s.conv c).inj, (s.conv c).reg with
  | some i, _ => ((injectedEntries s.stored c)[i]?.getD (0, 0)).1
  | none, some r => if r.cross then 0 else ((regularEntries s.stored c)[r.idx]?.getD (0, 0)).1
  | none, none => 0

/-- The raw code of a converter's running conversion while a source drives its channel (R588, R647, R648, R722). -/
def State.convCode (s : State) (c : Conv) (src : Source) : Nat :=
  convert s s.now c (s.convChannel c) (s.convSmp c) (s.conv c).refnr src

/-- CONVERSION_DONE (R609): the running conversion of a converter delivers its raw code. One of a regular sequence takes longer than the ADC clock in
which a cross entry could still come (R607). -/
def execConversionDone (c : Conv) (src : Source) (s : State) : Host.Outcome State Fault Refusal :=
  let raw := s.convCode c src
  Prog.next (match (s.conv c).inj, (s.conv c).reg with
    | some i, _ => injectedDone c i raw
    | none, some r => .seq (crossLapse true) (if r.cross then crossDone c r raw else regularDone c r raw)
    | none, none => .skip) s

/-- SW_REGULAR_TRIGGER (R599). -/
def swRegular (c : Conv) : Prog := .look fun s => Prog.when (s.flag (regCtrl c) 27) (regularTrigger c false)

/-- SW_INJECTED_TRIGGER (R602). -/
def swInjected (c : Conv) : Prog := .look fun s => Prog.when (s.flag (regCtrl c) 27) (injectedTrigger c)

/-- SW_REGULAR_TRIGGER (R599). -/
def execSwRegularTrigger (c : Conv) (s : State) : Host.Outcome State Fault Refusal := Prog.next (swRegular c) s

/-- SW_INJECTED_TRIGGER (R602). -/
def execSwInjectedTrigger (c : Conv) (s : State) : Host.Outcome State Fault Refusal := Prog.next (swInjected c) s

/-- ADC_TIMER_TRIGGER (R599): within a tick before the guard start, or within a pass. -/
def execAdcTimerTrigger (c : Conv) (s : State) : Host.Outcome State Fault Refusal :=
  let due := if s.freeRun then s.tick.pass else s.tick.edges && decide (s.offset < s.period - guardOf s.period)
  Prog.next (Prog.when (due && s.flag (regCtrl c) 28 && decide (s.fld (Reg.adcATmr + convBase c) 19 0 ≠ 0))
    (regularTrigger c false)) s

/-- ADC_DATA_READ (R610): VALID is cleared after the read. -/
def execAdcDataRead (c : Conv) (s : State) : Host.Outcome State Fault Refusal := Prog.next (readData c) s

/-- The mover closes the live page of a closing tick (R618). It acts while it is enabled for a converter or the page has entries; log
entry 16. Of a page that is not powered it copies nothing and writes no shape word (R621). -/
def moverClose (closing : Word) : Prog :=
  .look fun s =>
    let base := (s.stored Reg.mvBase).toNat
    let shape := (s.stored Reg.mvShape).toNat
    if s.fld Reg.mvCtrl 1 0 = 0 ∧ s.adc.live = 0 then
      modAdc fun x => { x with live := 0, liveRefnr := false, liveFull := false, closing := false, waiting := [], lastB := none }
    else Prog.all [
      Prog.when s.pagePowered (.seq (writeShape shape 0) (.mem (base + 4096) (s.rdBytes base (4 * s.adc.live)))),
      .reg Reg.mvClosedTick closing,
      .reg Reg.mvClosedStat (placeBit s.adc.liveRefnr 17 ||| placeBit s.adc.liveFull 16 ||| place s.adc.live 10 0),
      Prog.when s.pagePowered (writeShape (shape + 4) s.adc.live),
      modAdc fun x => { x with live := 0, liveRefnr := false, liveFull := false, closing := true, lastB := none }]

/-- MOVER_CLOSE_COMPLETE (R619): the held results are appended. -/
def execMoverCloseComplete (s : State) : Host.Outcome State Fault Refusal :=
  Prog.next (Prog.when s.adc.closing
    (.seq (modAdc fun x => { x with closing := false, waiting := [] })
      (Prog.each s.adc.waiting fun w => .look fun t => Prog.when t.pagePowered (moverAppend w.1 w.2)))) s

/-- The reference falls; while REF_EN is 1 that is a loss (R591, R592). -/
def refFall : Prog :=
  .look fun s => Prog.when s.adc.refReady
    (Prog.all [
      modAdc fun x => { x with
        refReady := false
        a := { x.a with cal := x.a.cal.map fun j => { j with lost := true } }
        b := { x.b with cal := x.b.cal.map fun j => { j with lost := true } } },
      judgeRaw,
      Prog.when (s.flag Reg.adcRef 0) (.seq (setFlag .refLoss) (raise 0x0B02 2 (s.stored Reg.adcRef)))])

/-- REF_READY (R590): the reference buffer is on and has settled. -/
def execRefReady (s : State) : Host.Outcome State Fault Refusal :=
  Prog.next (Prog.when (s.flag Reg.adcRef 0 && s.pwr.level != .keep)
    (.seq (modAdc fun x => { x with refReady := true }) judgeRaw)) s

/-- REF_LOSS (R591, R592). -/
def execRefLoss (s : State) : Host.Outcome State Fault Refusal := Prog.next refFall s

/-- A converter's sequences and held trigger end without a result (R623, R625). -/
def stopConv (c : Conv) : Prog := modConv c fun k => { k with reg := none, inj := none, held := none }

/-- The node enters KEEP: the converters stop, the reference falls, a held zero step ends (R591, R623, R654). -/
def adcKeep : Prog :=
  Prog.all [
    stopConv .a, stopConv .b, refFall,
    modAdc fun x => { x with a := { x.a with zero := none }, b := { x.b with zero := none }, crossA := none, crossB := none, crossDue := none,
                             live := 0, liveRefnr := false, liveFull := false, closing := false, waiting := [], lastB := none }]

/-- Whether a converter passed BIST. -/
def State.convOk (s : State) : Conv → Bool
  | .a => s.pwr.adcAOk
  | .b => s.pwr.adcBOk

/-- Payload of an ADC_CAL reply (Table 5-4). -/
def calPayload (mean lo hi off gain : Nat) : List Byte :=
  leBytes 2 mean ++ leBytes 2 lo ++ leBytes 2 hi ++ leBytes 2 off ++ leBytes 2 gain ++ [0, 0]

/-- reject() of R650: REASON, CAL_REJ, and the held zero ends. -/
def calRejectEffect (c : Conv) (reason : Nat) : Prog :=
  Prog.all [setFld Reg.adcCalStat 3 0 reason, setFlag .calRej, modConv c fun k => { k with zero := none }]

/-- ADC_CAL (R649): the checks, then sampling begins; its reply follows at ADC_CAL_STEP_COMPLETE. A request that comes while a step of its
converter runs is served after it, and every later one behind it (R32; log entry 102). Also one that is DENIED at step 10 ends a held zero
step (R654). -/
def opAdcCal (s : State) (r : Req) : Answer :=
  let pl := r.payload
  let c : Conv := if field pl 0 1 = 0 then .a else .b
  let full := decide (field pl 1 1 = 1)
  let ch := field pl 2 1
  let target := field pl 4 2
  if (s.conv c).cal.isSome then .later (park 0x20 r)
  else if s.pwr.level = .keep then .just St.denied
  else if pl.length ≠ 8 ∨ 1 < field pl 0 1 ∨ 1 < field pl 1 1 ∨ !zeroAt pl 3 1 ∨ !zeroAt pl 6 2 ∨ 22 < ch ∨
      (ch < 16 ∧ !s.flag Reg.pmAinMode ch) ∨ (!full ∧ target ≠ 0) ∨ (full ∧ (target = 0 ∨ 4095 < target)) then .just St.badParam
  else if !s.convOk c ∨ s.flag (regCtrl c) 31 ∨ s.flag (injCtrl c) 31 ∨ s.crossOn ∨
      (full ∧ ((s.conv c).zero.map fun z => z.1) ≠ some ch) then
    .now St.denied [] (modConv c fun k => { k with zero := none })
  else if !s.adc.refReady then .now St.calReject (calPayload 0 0 0 0 0) (calRejectEffect c 1)
  else .later (modConv c fun k =>
    { k with cal := some { req := r, full := full, ch := ch, target := target, lost := false }, zero := if full then k.zero else none })

/-- ADC_CAL (R649). -/
def execAdcCal (r : Req) (s : State) : Host.Outcome State Fault Refusal := Prog.next (serve 0x20 opAdcCal r) s

/-- Mean of samples, rounded under R406. -/
def meanOf (l : List Nat) : Nat := if l.isEmpty then 0 else roundDiv l.sum l.length

/-- What a calibration step comes to (R650): a status, the reply's payload, and the effect. -/
def calStep (s : State) (c : Conv) (j : CalJob) (l : List Nat) : Nat × List Byte × Prog :=
  let mean := meanOf l
  let lo := l.foldl min (l.headD 0)
  let hi := l.foldl max 0
  let reject := fun reason => (St.calReject, calPayload mean lo hi 0 0, calRejectEffect c reason)
  let off := ((s.conv c).zero.map fun z => z.2).getD 0
  let gain := roundDiv (16384 * j.target) (mean - off)
  if j.lost || !s.adc.refReady then reject 1
  else if 16 < hi - lo then reject 3
  else if !j.full then
    if 64 < mean then reject 2
    else (St.ok, calPayload mean lo hi 0 0, modConv c fun k => { k with zero := some (j.ch, mean) })
  else if mean ≤ off then reject 4
  else if gain < 0x399A ∨ 0x4666 < gain then reject 5
  else (St.ok, calPayload mean lo hi off gain, Prog.all [
    modConv c fun k => { k with zero := none },
    stageMasked (Reg.adcACal + 4 * convIndex c) 0xFFFFFFFF (place off 31 16 ||| place gain 15 0),
    stageMasked Reg.adcCalEn (placeBit true (convIndex c)) (placeBit true (convIndex c))])

/-- The raw conversions of a calibration step, at consecutive instants and with SMP 3 (R650): those before the loss of the reference, or 64, the last
source standing for the rest. -/
def calCodes (s : State) (c : Conv) (j : CalJob) (sources : List Source) : List Nat :=
  let n := if j.lost || !s.adc.refReady then min 63 sources.length else 64
  (List.range n).map fun i => convert s (s.now + i) c j.ch 3 false (sources.getD i (sources.getLastD ⟨0, 0⟩))

/-- A calibration step ends: it is judged, and its request answered (R650 to R652). -/
def calDone (c : Conv) (sources : List Source) : Prog :=
  .look fun s =>
    match (s.conv c).cal with
    | none => .skip
    | some j =>
      let out := calStep s c j (calCodes s c j sources)
      Prog.all [modConv c fun k => { k with cal := none }, out.2.2, complete j.req 0x20 out.1 out.2.1]

/-- ADC_SNAPSHOT (R16, R622). -/
def opAdcSnapshot (s : State) (r : Req) : Answer :=
  let start := field r.payload 0 2
  let count := field r.payload 2 2
  let closed := s.fld Reg.mvClosedStat 10 0
  if s.pwr.level = .keep then .just St.denied
  else if r.payload.length ≠ 4 ∨ 1022 < count ∨ 1024 < start + count then .just St.badParam
  else if !inMap ((s.stored Reg.mvBase).toNat + 4096 + 4 * start) (4 * count) then .just St.badAddr
  else .now St.ok
    (wordBytes (s.readReg Reg.adcAData) ++ wordBytes (s.readReg Reg.adcBData) ++
      (List.range count).flatMap fun i =>
        if start + i < closed then s.rdBytes ((s.stored Reg.mvBase).toNat + 4096 + 4 * (start + i)) 4 else [0, 0, 0, 0])
    (.seq (readData .a) (readData .b))

/-- ADC_SNAPSHOT (R622). -/
def execAdcSnapshot (r : Req) (s : State) : Host.Outcome State Fault Refusal := Prog.next (serve 0x21 opAdcSnapshot r) s

end Sys2Proof.Machine
end

