-- ==== Sys2Proof/Machine/Energy.lean ====
section
/-! DEFINITION. The energy account, the grades and the thermal governor (chapter 7). -/

namespace Sys2Proof.Machine

/-- EXACT in EN_CTRL (R309). -/
def State.exactOn (s : State) : Bool := s.flag Reg.enCtrl 0

/-- A balance kept within 32 bits (R279). -/
def clampBal (b : Int) : Int := max (-2147483648) (min 2147483647 b)

/-- Units of 0.25 µJ in an energy with its carried residue, and the new residue (R275). The energies are those that the meters count:
the error that R276 allows a meter lies in the operand and in the free value that give them (log entry 12). -/
def meterUnits (res nJ : Nat) : Nat × Nat := ((res + nJ) / 250, (res + nJ) % 250)

/-- No energy. -/
def noSpend : Spend := { core := 0, mem := 0, ana := 0, io := 0 }

/-- Two energies together, domain by domain. -/
def addSpend (x y : Spend) : Spend := { core := x.core + y.core, mem := x.mem + y.mem, ana := x.ana + y.ana, io := x.io + y.io }

/-- The sum of the four counts of the running tick so far, in 0.25 µJ units (R278). -/
def En.running (e : En) : Nat :=
  (meterUnits e.resCore e.acc.core).1 + (meterUnits e.resMem e.acc.mem).1 + (meterUnits e.resAna e.acc.ana).1 + (meterUnits e.resIo e.acc.io).1

/-- The counts start again from the carried residues (R278). -/
def restartMeters : Prog := modEn fun e => { e with acc := noSpend, shown := 0 }

/-- A cycle of the I/O clock passes: in WATCH and RUN the meters integrate what the domains draw in it, a free value, and every 10 µs
EN_CUR shows the running sum; in KEEP they stand (R277, R278; log entry 12). The 10 µs are those of the model's clock, not counted from the
edge: DESIGN CHOICE, log entry 12. -/
def meterCycle : Prog :=
  .look fun s => Prog.when (s.pwr.level != .keep) (.seq .draw (modEn fun e =>
    let e := { e with acc := addSpend e.acc (Config.drawn s.free) }
    if (s.now + 10) % 10000 = 0 then { e with shown := e.running } else e))

/-- Step 1 of R308: the meters' counts of a metered tick reach EN_LAST, their residues carry over, and the counts start again; at
every other edge that opens a tick in WATCH or RUN they start again without a copy (R275, R278). The tick's energy is what the
cycles of the clock have counted and what the command names. -/
def closeMeters (metered : Bool) (sp : Spend) : Prog :=
  .look fun s => if !metered then Prog.when (s.pwr.level != .keep) restartMeters else (
    let c := meterUnits s.en.resCore (s.en.acc.core + sp.core)
    let m := meterUnits s.en.resMem (s.en.acc.mem + sp.mem)
    let a := meterUnits s.en.resAna (s.en.acc.ana + sp.ana)
    let i := meterUnits s.en.resIo (s.en.acc.io + sp.io)
    Prog.all [
      .reg Reg.enLastCore (place c.1 31 0), .reg Reg.enLastMem (place m.1 31 0), .reg Reg.enLastAna (place a.1 31 0),
      .reg Reg.enLastIo (place i.1 31 0),
      modEn fun e => { e with resCore := c.2, resMem := m.2, resAna := a.2, resIo := i.2 }, restartMeters])

/-- The spend of the closing tick: the sum of the EN_LAST registers (R278). -/
def State.spend (s : State) : Nat :=
  (s.stored Reg.enLastCore).toNat + (s.stored Reg.enLastMem).toNat + (s.stored Reg.enLastAna).toNat + (s.stored Reg.enLastIo).toNat

/-- The balance after a settlement: a waiting clear, the debit, the clip, the credit (R280, R283). -/
def settledBal (s : State) (metered opens : Bool) (credit : Nat) : Int × Int :=
  let b0 := if s.en.clear && (metered || opens) then 0 else s.en.bal
  let b1 := if metered then clampBal (b0 - s.spend) else b0
  let cap := 4 * Int.ofNat (s.fld Reg.enCarryMax 23 0)
  let b2 := if opens && decide (cap < b1) then cap else b1
  (b1, if opens then clampBal (b2 + credit) else b2)

/-- Step 5 of R308: settle the account; DEBT follows a negative balance after the debit (R280 to R283). -/
def settle (metered opens : Bool) (credit : Nat) : Prog :=
  .look fun s =>
    let b := settledBal s metered opens credit
    .seq (modEn fun e => { e with bal := b.2, clear := e.clear && !(metered || opens) })
      (setFlagIf (metered && decide (b.1 < 0)) .debt)

/-- Estimate of a grade in µJ (R287). -/
def State.estimate (s : State) (g : Nat) : Nat := s.fld (Reg.enEst0 + 4 * g) 23 0

/-- The lowest-numbered grade whose estimate fits the balance (R290). -/
def fittingGrade (s : State) (ng : Nat) : Option Nat :=
  (List.range ng).find? fun i => decide (4 * Int.ofNat (s.estimate i) ≤ s.en.bal)

/-- The grade of the opening tick (R290). -/
def gradeFor (s : State) (ng : Nat) : Nat :=
  if s.exactOn then 0
  else
    let g := if s.en.pinValid then s.en.pin else (fittingGrade s ng).getD (ng - 1)
    max g (min s.en.floor (ng - 1))

/-- Step 6 of R308: choose the grade while an image is loaded (R290, R291, R310). -/
def chooseGrade : Prog :=
  .look fun s =>
    match s.eng.image with
    | none => .skip
    | some im => Prog.all [
        modEn fun e => { e with cur := gradeFor s im.ng },
        setFlagIf (!s.exactOn && (fittingGrade s im.ng).isNone) .energyShort,
        setFlagIf (s.exactOn && decide (s.en.bal < 4 * Int.ofNat (s.estimate 0))) .exactOver]

/-- Whether a sample in 1/16 °C is valid (R296). -/
def validTemp (t : Int) : Bool := decide (-640 ≤ t) && decide (t ≤ 2400)

/-- The sensors that a node samples: TS4 is absent on BRN-C64 (R296). -/
def State.hasSensor (s : State) (n : Nat) : Bool := s.fuse.isV64 || n != 4

/-- The valid samples of an instant, by sensor (R296). -/
def validSamples (s : State) (temps : List Int) : List (Nat × Int) :=
  ((List.range 6).zip temps).filter fun x => s.hasSensor x.1 && validTemp x.2

/-- SENSOR_FAULT for every invalid sample of a present sensor (R296). -/
def sensorFaults (s : State) (temps : List Int) : Prog :=
  Prog.each (((List.range 6).zip temps).filter fun x => s.hasSensor x.1 && !validTemp x.2) fun _ =>
    .seq (setFlag .sensorFault) (raise 0x0202 1 (s.stored Reg.thAvg))

/-- Highest of some samples. -/
def maxTemp : List (Nat × Int) → Option Int
  | [] => none
  | x :: t => some (t.foldl (fun m y => max m y.2) x.2)

/-- Sums of the open tick or interval after an instant's samples (R297). -/
def addSamples (e : En) (v : List (Nat × Int)) : En :=
  match maxTemp v with
  | none => e
  | some m => { e with
      maxSum := e.maxSum + m, maxCount := e.maxCount + 1
      sens := ((List.range 6).zip e.sens).map fun x =>
        match v.find? fun y => y.1 == x.1 with
        | some y => (x.2.1 + y.2, x.2.2 + 1)
        | none => x.2 }

/-- THERMAL_SAMPLE (R295 to R297): every present sensor is sampled in WATCH and RUN. Temperatures are in 1/16 °C. -/
def execThermalSample (temps : List Int) (s : State) : Host.Outcome State Fault Refusal :=
  Prog.next (Prog.when (s.pwr.level != .keep)
    (.seq (sensorFaults s temps) (modEn fun e => addSamples e (validSamples s temps)))) s

/-- Drop the samples of the open tick or interval (R747). -/
def dropSamples : Prog := modEn fun e => { e with maxSum := 0, maxCount := 0, sens := List.replicate 6 (0, 0) }

/-- Tick edges stop: the samples and the meter counts of the open tick are discarded (R747). -/
def dropOpen : Prog := .seq dropSamples restartMeters

/-- T_CRIT in 1/16 °C. -/
def State.tCrit (s : State) : Int := 16 * Int.ofNat (s.fld Reg.thLimits 23 16)

/-- T_HIGH in 1/16 °C. -/
def State.tHigh (s : State) : Int := 16 * Int.ofNat (s.fld Reg.thLimits 7 0)

/-- The average that TH_AVG takes; without any valid sample it counts as T_CRIT (R297, R298). -/
def State.thermalMean (s : State) : Int :=
  if s.en.maxCount = 0 then s.tCrit else roundDivInt s.en.maxSum s.en.maxCount

/-- Step 2 of R308: TH_AVG and the TH_SENS registers close over the tick or interval (R297, R298). R297 states no rounding for a
sensor's own average: DESIGN CHOICE, it is rounded as the mean is (log entry 90). -/
def closeThermal : Prog :=
  .look fun s =>
    let mask := fromBits (s.en.sens.map fun x => decide (x.2 ≠ 0))
    Prog.all [
      .reg Reg.thAvg (place mask 21 16 ||| place (unsigned 16 s.thermalMean) 15 0),
      Prog.each ((List.range 6).zip s.en.sens) fun x =>
        .reg (Reg.thSens0 + 4 * x.1)
          (if x.2.2 = 0 then 0 else placeBit true 31 ||| place (unsigned 16 (roundDivInt x.2.1 x.2.2)) 15 0),
      dropSamples]

/-- AVG of TH_AVG as a temperature. -/
def State.thAvg (s : State) : Int := signed 16 (s.fld Reg.thAvg 15 0)

/-- Whether the closed average is critical (R304). -/
def State.critical (s : State) : Bool := decide (s.tCrit ≤ s.thAvg)

/-- The flags and the record of a T_CRIT stop (R304). -/
def critMarks : Prog :=
  .look fun s => Prog.all [
    modEn fun e => { e with floor := 3, hold := true }, setFlag .thermCrit, raise 0x0201 3 (s.stored Reg.thAvg)]

/-- HOT_CNT and COOL_CNT after an average (R300). -/
def governorCounts (s : State) : Nat × Nat :=
  if s.tHigh ≤ s.thAvg then (s.en.hot + 1, 0)
  else if s.thAvg ≤ s.tHigh - 64 then (0, s.en.cool + 1)
  else (0, 0)

/-- The floor change that counts call for: up, down or none (R301). -/
def floorMove (floor hot cool : Nat) : Option Bool :=
  if 8 ≤ hot ∧ floor < 3 then some true else if 32 ≤ cool ∧ 0 < floor then some false else none

/-- One more tick, or thermal interval, since the latest floor change (R303, R307). -/
def ageChange : Prog := modEn fun e => { e with change := e.change.map fun c => (c.1, min 65 (c.2 + 1)) }

/-- Step 4 of R308: the governor, unless EXACT is 1 (R300 to R303, R309). -/
def governor : Prog :=
  .look fun s => Prog.when (!s.exactOn) (
      let n := governorCounts s
      let hot := if 8 ≤ n.1 then 0 else n.1
      let cool := if 32 ≤ n.2 then 0 else n.2
      match floorMove s.en.floor n.1 n.2 with
      | none => modEn fun e => { e with hot := hot, cool := cool }
      | some up =>
        .seq (modEn fun e => { e with
            hot := hot, cool := cool, floor := if up then e.floor + 1 else e.floor - 1, change := some (up, 0) })
          (setFlagIf (s.en.change.any fun c => c.1 != up && decide (c.2 ≤ 64)) .thermChatter))

/-- THERM_HOLD_SAMPLE (R305): in THERM_HOLD, a maximum at or below T_HIGH - 4 °C ends the hold. -/
def execThermHoldSample (temps : List Int) (s : State) : Host.Outcome State Fault Refusal :=
  Prog.next (Prog.when s.en.hold
    (.seq (sensorFaults s temps)
      (Prog.when ((maxTemp (validSamples s temps)).any fun m => decide (m ≤ s.tHigh - 64)) (modEn fun e => { e with hold := false })))) s

/-- CLR (R283): the clear waits for the next settlement. -/
def clearBalance : Prog := modEn fun e => { e with clear := true }

/-- CLR (R283). -/
def execClr (s : State) : Host.Outcome State Fault Refusal := Prog.next clearBalance s

/-- SELECT_GRADE (R292). -/
def opSelectGrade (s : State) (r : Req) : Answer :=
  let g := field r.payload 0 1
  let ng := (s.eng.image.map fun i => i.ng).getD 0
  if r.payload ≠ [] ∧ g ≤ 3 ∧ s.eng.image.isNone then .just St.denied
  else if r.payload.length ≠ 4 ∨ !zeroAt r.payload 1 3 then .just St.badParam
  else if g = 0xFF then .now St.ok [] (modEn fun e => { e with pinValid := false })
  else if ng ≤ g then .just St.badParam
  else .now St.ok [] (modEn fun e => { e with pin := g, pinValid := true })

/-- SELECT_GRADE (R292). -/
def execSelectGrade (r : Req) (s : State) : Host.Outcome State Fault Refusal := Prog.next (serve 0x1B opSelectGrade r) s

end Sys2Proof.Machine
end

