-- ==== Sys2Proof/Machine/Numbers.lean ====
section
/-! DEFINITION. Number formats and their arithmetic (chapter 10): exact values, the one rounding rule, narrowing, and the
elements of tensors in memory. -/

namespace Sys2Proof.Machine

/-- An exact value: a signed multiple of a power of two, an infinity, or a NaN. A zero keeps its sign (R408). -/
inductive Num where
  | fin (neg : Bool) (m : Nat) (e : Int)
  | inf (neg : Bool)
  | nan
  deriving DecidableEq, Repr

/-- Format codes (Table 10-1). -/
abbrev Fmt.u8 : Nat := 0
abbrev Fmt.i8 : Nat := 1
abbrev Fmt.i4 : Nat := 2
abbrev Fmt.i16 : Nat := 3
abbrev Fmt.i32 : Nat := 4
abbrev Fmt.e4m3 : Nat := 5
abbrev Fmt.e5m2 : Nat := 6
abbrev Fmt.bf16 : Nat := 7
abbrev Fmt.fp32 : Nat := 8
abbrev Fmt.cb4 : Nat := 9
abbrev Fmt.cb8 : Nat := 10
abbrev Fmt.p2 : Nat := 11

/-- Width of an element in bits (Table 10-1). -/
def fmtBits (f : Nat) : Nat :=
  if f = Fmt.i4 ∨ f = Fmt.cb4 then 4 else if f = Fmt.i16 ∨ f = Fmt.bf16 then 16 else if f = Fmt.i32 ∨ f = Fmt.fp32 then 32 else 8

/-- Entries of a codebook of a format. -/
def cbCount (f : Nat) : Nat := if f = Fmt.cb4 then 16 else 256

/-- Whether a format holds codebook indices. -/
def isCb (f : Nat) : Bool := f = Fmt.cb4 || f = Fmt.cb8

/-- The integer formats. -/
def isInt (f : Nat) : Bool := decide (f ≤ Fmt.i32)

/-- The float formats. -/
def isFloat (f : Nat) : Bool := decide (Fmt.e4m3 ≤ f) && decide (f ≤ Fmt.fp32)

/-- Parameters of a float format (Table 10-2). -/
structure FloatFmt where
  mbits  : Nat
  bias   : Nat
  maxMag : Nat
  /-- Code of +∞, if the format has one. -/
  infMag : Option Nat
  /-- The NaN that the node writes. -/
  nanMag : Nat

/-- Table 10-2. -/
def floatFmt (f : Nat) : FloatFmt :=
  if f = Fmt.e4m3 then ⟨3, 7, 0x7E, none, 0x7F⟩
  else if f = Fmt.e5m2 then ⟨2, 15, 0x7B, some 0x7C, 0x7F⟩
  else if f = Fmt.bf16 then ⟨7, 127, 0x7F7F, some 0x7F80, 0x7FC0⟩
  else ⟨23, 127, 0x7F7FFFFF, some 0x7F800000, 0x7FC00000⟩

/-- Exponent of the last place of a subnormal (R402). -/
def FloatFmt.low (p : FloatFmt) : Int := 1 - Int.ofNat p.bias - Int.ofNat p.mbits

/-- The value of a magnitude code (R402, R403, Table 10-2). -/
def FloatFmt.value (p : FloatFmt) (neg : Bool) (c : Nat) : Num :=
  if p.infMag = some c then .inf neg
  else if p.maxMag < c then .nan
  else if c / 2 ^ p.mbits = 0 then .fin neg c p.low
  else .fin neg (2 ^ p.mbits + c % 2 ^ p.mbits) (p.low + Int.ofNat (c / 2 ^ p.mbits) - 1)

/-- An integer as an exact value. -/
def Num.ofInt (v : Int) : Num := .fin (decide (v < 0)) v.natAbs 0

/-- The value of an element's code (R401, R402). A P2 code is the scale that it stands for (R405). -/
def numOf (f code : Nat) : Num :=
  if f = Fmt.p2 then .fin false 1 (signed 8 code)
  else if isFloat f then (floatFmt f).value (code.testBit (fmtBits f - 1)) (code % 2 ^ (fmtBits f - 1))
  else if f = Fmt.u8 ∨ f = Fmt.cb4 ∨ f = Fmt.cb8 then .fin false code 0
  else Num.ofInt (signed (fmtBits f) code)

/-- Exact product under IEEE 754 rules for infinities and NaN (R418). -/
def Num.mul : Num → Num → Num
  | .nan, _ => .nan
  | _, .nan => .nan
  | .inf a, .inf b => .inf (a != b)
  | .inf a, .fin b m _ => if m = 0 then .nan else .inf (a != b)
  | .fin a m _, .inf b => if m = 0 then .nan else .inf (a != b)
  | .fin a m e, .fin b n f => .fin (a != b) (m * n) (e + f)

/-- m × 2^e scaled to an exponent that is not above e. -/
def alignTo (low : Int) (m : Nat) (e : Int) : Nat := m * 2 ^ (e - low).toNat

/-- Exact sum (R414). Equal magnitudes of opposite sign give +0. -/
def Num.add : Num → Num → Num
  | .nan, _ => .nan
  | _, .nan => .nan
  | .inf a, .inf b => if a = b then .inf a else .nan
  | .inf a, .fin _ _ _ => .inf a
  | .fin _ _ _, .inf b => .inf b
  | .fin a m e, .fin b n f =>
    let low := min e f
    let x := alignTo low m e
    let y := alignTo low n f
    if a = b then .fin a (x + y) low
    else if y < x then .fin a (x - y) low
    else if x < y then .fin b (y - x) low
    else .fin false 0 low

/-- Exact negation. -/
def Num.neg : Num → Num
  | .fin a m e => .fin (!a) m e
  | .inf a => .inf (!a)
  | .nan => .nan

/-- Magnitude. -/
def Num.abs : Num → Num
  | .fin _ m e => .fin false m e
  | .inf _ => .inf false
  | .nan => .nan

/-- Multiply by a power of two. -/
def Num.shift (k : Int) : Num → Num
  | .fin a m e => .fin a m (e + k)
  | v => v

/-- Exact comparison of two values; false with a NaN. -/
def Num.lt : Num → Num → Bool
  | .nan, _ => false
  | _, .nan => false
  | .inf a, .inf b => a && !b
  | .inf a, .fin _ _ _ => a
  | .fin _ _ _, .inf b => !b
  | .fin a m e, .fin b n f =>
    let low := min e f
    let x := Int.ofNat (alignTo low m e)
    let y := Int.ofNat (alignTo low n f)
    decide ((if a then -x else x) < (if b then -y else y))

/-- Exact sum of a list, from +0. -/
def Num.sum (l : List Num) : Num := l.foldl Num.add (.fin false 0 0)

/-- Zero. -/
def Num.zero : Num := .fin false 0 0

/-- What a narrowing gives: the code, and whether it saturated or met a NaN (R410, R411). -/
structure Narrowed where
  code : Nat
  sat  : Bool
  nan  : Bool
  deriving DecidableEq, Repr

/-- m × 2^e rounded to a multiple of 2^u, ties away from zero, in units of 2^u (R406). -/
def roundUnits (m : Nat) (e u : Int) : Nat :=
  if u ≤ e then m * 2 ^ (e - u).toNat else roundDiv m (2 ^ (u - e).toNat)

/-- Magnitude code of m × 2^e rounded into a float format, before saturation (R408). -/
def FloatFmt.code (p : FloatFmt) (m : Nat) (e : Int) : Nat :=
  if m = 0 then 0
  else
    let u := max p.low (e + Int.ofNat (Nat.log2 m) - Int.ofNat p.mbits)
    (u - p.low).toNat * 2 ^ p.mbits + roundUnits m e u

/-- Sign bit of a format. -/
def signBit (f : Nat) (neg : Bool) : Nat := if neg then 2 ^ (fmtBits f - 1) else 0

/-- Narrow into a float format (R408 to R411). -/
def narrowFloat (f : Nat) : Num → Narrowed
  | .nan => ⟨(floatFmt f).nanMag, false, true⟩
  | .inf s =>
    match (floatFmt f).infMag with
    | some c => ⟨signBit f s + c, false, false⟩
    | none => ⟨signBit f s + (floatFmt f).maxMag, true, false⟩
  | .fin s m e =>
    let c := (floatFmt f).code m e
    if (floatFmt f).maxMag < c then ⟨signBit f s + (floatFmt f).maxMag, true, false⟩ else ⟨signBit f s + c, false, false⟩

/-- Range of an integer format (Table 10-1). -/
def intRange (f : Nat) : Int × Int :=
  if f = Fmt.u8 then (0, 255) else (-(2 ^ (fmtBits f - 1)), 2 ^ (fmtBits f - 1) - 1)

/-- An exact finite value rounded to an integer (R406, R407). -/
def Num.round (neg : Bool) (m : Nat) (e : Int) : Int :=
  if neg then -Int.ofNat (roundUnits m e 0) else Int.ofNat (roundUnits m e 0)

/-- Narrow into an integer format (R407, R409 to R411). -/
def narrowInt (f : Nat) : Num → Narrowed
  | .nan => ⟨unsigned (fmtBits f) (intRange f).2, false, true⟩
  | .inf s => ⟨unsigned (fmtBits f) (if s then (intRange f).1 else (intRange f).2), true, false⟩
  | .fin s m e =>
    let v := Num.round s m e
    let w := max (intRange f).1 (min (intRange f).2 v)
    ⟨unsigned (fmtBits f) w, decide (w ≠ v), false⟩

/-- Narrow into P2: the code of the nearest power of two, of the larger one at a tie (R405, R406). What lies beyond its powers takes the nearest end as
in an integer format (log entry 120). -/
def narrowP2 : Num → Narrowed
  | .nan => ⟨127, false, true⟩
  | .inf s => ⟨if s then unsigned 8 (-128) else 127, true, false⟩
  | .fin s m e =>
    let v := e + Int.ofNat (Nat.log2 m) + (if 3 * 2 ^ Nat.log2 m ≤ 2 * m then 1 else 0)
    if s ∨ m = 0 then ⟨unsigned 8 (-128), true, false⟩
    else ⟨unsigned 8 (max (-128) (min 127 v)), decide (v < -128 ∨ 127 < v), false⟩

/-- Narrow an exact value into a format (R406 to R411). -/
def narrow (f : Nat) (v : Num) : Narrowed := if f = Fmt.p2 then narrowP2 v else if isFloat f then narrowFloat f v else narrowInt f v

/-- An FP32 word as a value. -/
def fp32 (w : Word) : Num := numOf Fmt.fp32 w.toNat

/-- The FP32 word nearest to a value (R406, R408). -/
def toFp32 (v : Num) : Word := BitVec.ofNat 32 (narrowFloat Fmt.fp32 v).code

/-- One FP32 addition with one rounding (R406). -/
def add32 (a b : Num) : Num := fp32 (toFp32 (Num.add a b))

/-- One FP32 multiplication with one rounding (R406). -/
def mul32 (a b : Num) : Num := fp32 (toFp32 (Num.mul a b))

/-- One FP32 division with one rounding (R406): the quotient of exact values, rounded to nearest, ties away from zero.
An infinite or NaN operand, and a zero divisor, follow IEEE 754. -/
def div32 : Num → Num → Num
  | .nan, _ => .nan
  | _, .nan => .nan
  | .inf _, .inf _ => .nan
  | .inf a, .fin b _ _ => .inf (a != b)
  | .fin a _ _, .inf b => .fin (a != b) 0 0
  | .fin a m e, .fin b n f =>
    if n = 0 then (if m = 0 then .nan else .inf (a != b))
    else
      -- 320 more bits than any FP32 quotient shows; an inexact quotient keeps a sticky bit, so no tie is made or lost
      let q := m * 2 ^ 320 / n
      let sticky := if m * 2 ^ 320 % n = 0 then 0 else 1
      fp32 (toFp32 (.fin (a != b) (2 * q + sticky) (e - f - 321)))

/-- Whether an FP32 sum saturated: finite and beyond the largest value (R414). -/
def overflows32 (v : Num) : Bool :=
  match v with
  | .fin _ _ _ => (narrowFloat Fmt.fp32 v).sat
  | _ => false

/-- A tensor reference (Table 8-3). -/
structure Tref where
  addr   : Nat
  fmt    : Nat
  dyn    : Bool
  rows   : Nat
  stride : Nat
  cols   : Nat
  shape  : Nat
  deriving DecidableEq, Repr

/-- Word i of a command, 0 beyond its end. -/
def wordAt (ws : List Word) (i : Nat) : Word := ws[i]?.getD 0

/-- The tensor reference whose first word is word i of a command. -/
def trefAt (ws : List Word) (i : Nat) : Tref :=
  { addr := (wordAt ws i).toNat, fmt := bits (wordAt ws (i + 1)) 31 28, dyn := bit (wordAt ws (i + 1)) 27,
    rows := bits (wordAt ws (i + 1)) 19 0, stride := bits (wordAt ws (i + 2)) 31 16, cols := bits (wordAt ws (i + 2)) 15 0,
    shape := (wordAt ws (i + 3)).toNat }

/-- Row pitch in bits (R323, R324). -/
def Tref.pitch (t : Tref) : Nat := if t.stride = 0 then t.cols * fmtBits t.fmt else t.stride * 128

/-- Bit offset of an element from ADDR. -/
def Tref.bitAt (t : Tref) (r c : Nat) : Nat := r * t.pitch + c * fmtBits t.fmt

/-- Bytes that a tensor of n rows spans. -/
def Tref.span (t : Tref) (n : Nat) : Nat := if n = 0 then 0 else ceilDiv ((n - 1) * t.pitch + t.cols * fmtBits t.fmt) 8

/-- The code of an element of n bits at a bit offset from an address (R404). -/
def State.rdElem (s : State) (a off n : Nat) : Nat :=
  if n < 8 then (s.rd8 (a + off / 8)).toNat / 2 ^ (off % 8) % 2 ^ n else leNat (s.rdBytes (a + off / 8) (n / 8))

/-- The code of a tensor's element. -/
def State.elem (s : State) (t : Tref) (r c : Nat) : Nat := s.rdElem t.addr (t.bitAt r c) (fmtBits t.fmt)

/-- The value of a tensor's element. -/
def State.num (s : State) (t : Tref) (r c : Nat) : Num := numOf t.fmt (s.elem t r c)

/-- Store the code of an element of n bits at a bit offset from an address (R404). -/
def putElem (a off n code : Nat) : Prog :=
  if n < 8 then .look fun s =>
    let old := (s.rd8 (a + off / 8)).toNat
    let sh := 2 ^ (off % 8)
    .mem (a + off / 8) [BitVec.ofNat 8 (old - old / sh % 2 ^ n * sh + code % 2 ^ n * sh)]
  else .mem (a + off / 8) (leBytes (n / 8) code)

/-- Store a code as a tensor's element. -/
def putCode (t : Tref) (r c code : Nat) : Prog := putElem t.addr (t.bitAt r c) (fmtBits t.fmt) code

/-- What narrowing records over a work item (R411, R412, R413): saturated elements, NaN elements, saturations of an
accumulator or of a post-processing addition. -/
structure Marks where
  sat : Nat
  nan : Nat
  acc : Nat
  deriving DecidableEq, Repr

/-- No marks. -/
def Marks.none : Marks := ⟨0, 0, 0⟩

/-- Marks of two parts together. -/
def Marks.add (a b : Marks) : Marks := ⟨a.sat + b.sat, a.nan + b.nan, a.acc + b.acc⟩

/-- Marks of narrowings. -/
def marksOf (l : List Narrowed) : Marks :=
  ⟨(l.filter fun n => n.sat).length, (l.filter fun n => n.nan).length, 0⟩

/-- The flags and counts of a completed work item or command (R411 to R414). -/
def applyMarks (m : Marks) : Prog :=
  Prog.all [
    setFlagIf (decide (m.sat ≠ 0)) .qSat, setFlagIf (decide (m.nan ≠ 0)) .nanSeen,
    addSat Reg.qsSatElems 31 0 m.sat, addSat Reg.qsNanElems 31 0 m.nan,
    Prog.when (decide (m.acc ≠ 0)) (.seq (setFlag .accSat) (addSat Reg.qsCnt1 15 0 (m.acc - 1)))]

/-- Store narrowed elements of a row from column c on. -/
def putRow (t : Tref) (r c : Nat) (l : List Narrowed) : Prog :=
  Prog.each ((List.range l.length).zip l) fun x => putCode t r (c + x.1) x.2.code

/-- An integer kept in the I32 range, and whether it saturated (R413). -/
def satI32 (v : Int) : Int × Bool :=
  let w := max (-2147483648) (min 2147483647 v)
  (w, decide (w ≠ v))

end Sys2Proof.Machine
end

