-- ==== Sys2Proof/Machine/Tensor.lean ====
section
/-! DEFINITION. What matrix and vector work items compute (chapters 9 and 10): tiles of MATMUL and CONV, the split-K
reduction, QUANT, ROTATE and VECOP. Operands are read when the item completes (log entry 17). -/

namespace Sys2Proof.Machine

/-- QCTRL of a matrix command (Table 8-5). -/
def qctrl (ws : List Word) : Word := wordAt ws 14

/-- Whether a command is a CONV. -/
def isConv (ws : List Word) : Bool := bits (wordAt ws 0) 31 24 = 0x11

/-- IROWS and ICOLS (Table 8-4). -/
def itemShape (ws : List Word) : Nat × Nat :=
  let w := wordAt ws (if isConv ws then 20 else 18)
  (bits w 31 16, bits w 15 0)

/-- Whether a matrix command runs on the integer path (Table 8-6). -/
def intPath (ws : List Word) : Bool := isInt (trefAt ws 1).fmt

/-- Zero-point modes of A and W (Table 8-5). -/
def zpModes (ws : List Word) : Nat × Nat := (bits (qctrl ws) 27 26, bits (qctrl ws) 25 24)

/-- ZP_A and ZP_W (Table 8-4). -/
def zeroPoints (ws : List Word) : Int × Int := (signed 16 (bits (wordAt ws 15) 31 16), signed 16 (bits (wordAt ws 15) 15 0))

/-- Whether a CONV is depthwise. -/
def depthwise (ws : List Word) : Bool := isConv ws && bit (qctrl ws) 20

/-- A codebook entry of a block: its format and code for channel n and code i (R427, R429). -/
def State.cbEntry (s : State) (cb n i count : Nat) : Nat × Nat :=
  let h := s.rd32 cb
  let size := if bits h 31 28 = Fmt.bf16 then 2 else 1
  let g := if bit h 27 then n / 32 else 0
  (bits h 31 28, leNat (s.rdBytes (cb + 16 + g * (ceilDiv (count * size) 16 * 16) + i * size) size))

/-- Format and code of a tensor's element, codebook indices decoded for a channel (R429). -/
def State.decoded (s : State) (t : Tref) (cb r c n : Nat) : Nat × Nat :=
  if isCb t.fmt then s.cbEntry cb n (s.elem t r c) (cbCount t.fmt) else (t.fmt, s.elem t r c)

/-- An integer operand from its format and code. -/
def intOf (x : Nat × Nat) : Int := if x.1 = Fmt.u8 then Int.ofNat x.2 else signed (fmtBits x.1) x.2

/-- Output width of a CONV (R326). -/
def convOut (n pad dil k str : Nat) : Nat := (n + 2 * pad - dil * (k - 1) - 1) / str + 1

/-- Geometry word fields of a CONV: KH, KW, SH, SW, PH, PW, DH, DW (Table 8-4). -/
def convField (ws : List Word) (i : Nat) : Nat := bits (wordAt ws 19) (31 - 4 * i) (28 - 4 * i)

/-- Code of the A or X operand for output row m, reduction index k and channel n; none where a CONV pads (R326). W of a CONV
runs by kernel row, kernel column, then input channel: DEDUCED, log entry 18. -/
def actCode (s : State) (ws : List Word) (m k n : Nat) : Option Nat :=
  let x := trefAt ws 1
  if !isConv ws then some (s.elem x m k)
  else
    let h := bits (wordAt ws 18) 31 16
    let w := bits (wordAt ws 18) 15 0
    let ow := convOut w (convField ws 5) (convField ws 7) (convField ws 1) (convField ws 3)
    let chans := if depthwise ws then 1 else x.cols
    let tap := k / chans
    let c := if depthwise ws then n else k % chans
    let ih := m / ow * convField ws 2 + tap / convField ws 1 * convField ws 6
    let iw := m % ow * convField ws 3 + tap % convField ws 1 * convField ws 7
    if ih < convField ws 4 ∨ iw < convField ws 5 ∨ h ≤ ih - convField ws 4 ∨ w ≤ iw - convField ws 5 then none
    else some (s.elem x ((ih - convField ws 4) * w + (iw - convField ws 5)) c)

/-- An integer A operand as it enters the multiplier (R326, R420). -/
def actInt (s : State) (ws : List Word) (m k n : Nat) : Int :=
  let a :=
    match actCode s ws m k n with
    | some c => intOf ((trefAt ws 1).fmt, c)
    | none => if (zpModes ws).1 = 0 then 0 else (zeroPoints ws).1
  if (zpModes ws).1 = 1 then a - (zeroPoints ws).1 else a

/-- A float A operand. -/
def actNum (s : State) (ws : List Word) (m k n : Nat) : Num :=
  match actCode s ws m k n with
  | some c => numOf (trefAt ws 1).fmt c
  | none => Num.zero

/-- Format and code of the W operand (R429). -/
def weight (s : State) (ws : List Word) (k n : Nat) : Nat × Nat := s.decoded (trefAt ws 5) (wordAt ws 16).toNat k n n

/-- An integer W operand as it enters the multiplier (R420). -/
def weightInt (s : State) (ws : List Word) (k n : Nat) : Int :=
  let w := intOf (weight s ws k n)
  if (zpModes ws).2 = 1 then w - (zeroPoints ws).2 else w

/-- Reduction length K: ROWS of W (R352). -/
def redLen (ws : List Word) : Nat := (trefAt ws 5).rows

/-- The groups of at most 32 consecutive k from k0 up to k1 (R381). -/
def kGroups (k0 k1 : Nat) : List (List Nat) :=
  (List.range (ceilDiv (k1 - k0) 32)).map fun g => (List.range (min 32 (k1 - k0 - 32 * g))).map fun i => k0 + 32 * g + i

/-- One accumulator addition: the new accumulator word and the number of saturations (R381, R413, R414). -/
def addAcc (int : Bool) (a b : Word) : Word × Nat :=
  if int then
    let v := satI32 (signed 32 a.toNat + signed 32 b.toNat)
    (BitVec.ofInt 32 v.1, if v.2 then 1 else 0)
  else
    let v := Num.add (fp32 a) (fp32 b)
    (toFp32 v, if overflows32 v then 1 else 0)

/-- The integer accumulator over a chunk (R381, R413). -/
def intChunk (s : State) (ws : List Word) (m n k0 k1 : Nat) : Int × Nat :=
  (kGroups k0 k1).foldl (fun acc g =>
    let v := satI32 (acc.1 + (g.map fun k => actInt s ws m k n * weightInt s ws k n).sum)
    (v.1, if v.2 then acc.2 + 1 else acc.2)) (0, 0)

/-- A float accumulator over groups of exact products (R381, R414). -/
def accGroups (l : List (List Num)) : Word × Nat :=
  l.foldl (fun acc g =>
    let v := Num.add (fp32 acc.1) (Num.sum g)
    (toFp32 v, if overflows32 v then acc.2 + 1 else acc.2)) (0, 0)

/-- The accumulator word of one output element over a chunk, I32 or FP32, and the saturations. -/
def chunkAcc (s : State) (ws : List Word) (m n k0 k1 : Nat) : Word × Nat :=
  if intPath ws then (BitVec.ofInt 32 (intChunk s ws m n k0 k1).1, (intChunk s ws m n k0 k1).2)
  else accGroups ((kGroups k0 k1).map fun g => g.map fun k =>
    Num.mul (actNum s ws m k n) (numOf (weight s ws k n).1 (weight s ws k n).2))

/-- Bytes of one scale (R423). -/
def scaleSize (sfmt : Nat) : Nat := if sfmt = Fmt.bf16 then 2 else 1

/-- Scale j of a scale tensor; 1 where SCALE_ADDR is 0 (R417, R423, R426). -/
def scaleOf (s : State) (addr sfmt j : Nat) : Num :=
  if addr = 0 then .fin false 1 0 else numOf sfmt (leNat (s.rdBytes (addr + j * scaleSize sfmt) (scaleSize sfmt)))

/-- Column sum Cw of channel n (R421, R423). -/
def colSum (s : State) (ws : List Word) (n : Nat) : Int :=
  let base := (wordAt ws 13).toNat + (trefAt ws 5).cols * scaleSize (bits (qctrl ws) 31 28)
  signed 32 (s.rd32 (ceilDiv base 16 * 16 + 4 * n)).toNat

/-- The sum of the A operands of output row m as they enter the multiplier, over some k (R421). -/
def rowPart (s : State) (ws : List Word) (m n : Nat) (ks : List Nat) : Int := (ks.map fun k => actInt s ws m k n).sum

/-- Row sum Ra of output row m (R421). -/
def rowSum (s : State) (ws : List Word) (m n : Nat) : Int := rowPart s ws m n (List.range (redLen ws))

/-- The zero-point correction of ZP-C from the row sum `ra` (R421). -/
def zpCorr (s : State) (ws : List Word) (n : Nat) (ra : Int) : Int :=
  let md := zpModes ws
  let zp := zeroPoints ws
  (if md.1 = 2 then -zp.1 * colSum s ws n else 0) + (if md.2 = 2 then -zp.2 * ra else 0) +
    (if md.1 = 2 ∧ md.2 = 2 then Int.ofNat (redLen ws) * zp.1 * zp.2 else 0)

/-- Whether a bias is added. -/
def hasBias (ws : List Word) : Bool := bit (qctrl ws) 22 && wordAt ws 17 != 0

/-- RELU (R417). -/
def relu : Num → Num
  | .fin neg m e => if neg then Num.zero else .fin neg m e
  | .inf neg => if neg then Num.zero else .inf neg
  | .nan => .nan

/-- Post-processing of one output element from its accumulator and row sum (R415, R416, R421, Table 10-3), with saturations. -/
def postProcess (s : State) (ws : List Word) (n : Nat) (ra : Int) (acc : Word) : Narrowed × Nat :=
  let bias := s.rd32 ((wordAt ws 17).toNat + 4 * n)
  let v : Num × Nat :=
    if intPath ws then
      let c := if (zpModes ws).1 = 2 ∨ (zpModes ws).2 = 2 then satI32 (signed 32 acc.toNat + zpCorr s ws n ra)
               else (signed 32 acc.toNat, false)
      let b := if hasBias ws then satI32 (c.1 + signed 32 bias.toNat) else (c.1, false)
      (Num.ofInt b.1, (if c.2 then 1 else 0) + (if b.2 then 1 else 0))
    else if hasBias ws then
      let b := addAcc false acc bias
      (fp32 b.1, b.2)
    else (fp32 acc, 0)
  let y := Num.mul v.1 (scaleOf s (wordAt ws 13).toNat (bits (qctrl ws) 31 28) n)
  (narrow (trefAt ws 9).fmt (if bit (qctrl ws) 21 then relu y else y), v.2)

/-- Numbers from a up to b. -/
def span (a b : Nat) : List Nat := (List.range (b - a)).map fun i => a + i

/-- Write rows of narrowed elements from column n0 on, with their marks and saturations. -/
def writeRows (y : Tref) (n0 : Nat) (rows : List (Nat × List (Narrowed × Nat))) : Prog :=
  let flat := rows.flatMap fun r => r.2
  .seq (Prog.each rows fun r => putRow y r.1 n0 (r.2.map fun x => x.1))
    (applyMarks (Marks.add (marksOf (flat.map fun x => x.1)) ⟨0, 0, (flat.map fun x => x.2).sum⟩))

/-- Rows and columns of an output block (R354, R379). -/
def blockRows (d : Desc) (b : Nat) : List Nat :=
  let ir := (itemShape d.words).1
  span (b / d.tileN * ir) (min d.extent (b / d.tileN * ir + ir))

/-- Columns of an output block. -/
def blockCols (d : Desc) (b : Nat) : List Nat :=
  let ic := (itemShape d.words).2
  span (b % d.tileN * ic) (min (trefAt d.words 5).cols (b % d.tileN * ic + ic))

/-- A MATMUL or CONV tile of a command that is not split (R379, R381 to R384). -/
def wholeTile (d : Desc) (t : Nat) : Prog :=
  .look fun s =>
    let ws := d.words
    writeRows (trefAt ws 9) ((blockCols d t).headD 0) ((blockRows d t).map fun m => (m, (blockCols d t).map fun n =>
      let a := chunkAcc s ws m n 0 (redLen ws)
      let p := postProcess s ws n (rowSum s ws m n) a.1
      (p.1, p.2 + a.2)))

/-- Address of a partial sum in a split-K block: chunk by chunk, row by row. DESIGN CHOICE, log entry 19. -/
def partialAddr (d : Desc) (base ks r c : Nat) : Nat :=
  let sh := itemShape d.words
  base + 4 * ((ks * sh.1 + r) * sh.2 + c)

/-- The row-sum partials of a chunk stay with its open output block: no rule places them in scratch memory (R382, R421). -/
def keepSums (d : Desc) (block : Nat) (sums : List Int) : Prog :=
  modDsp fun x => { x with scratch := x.scratch.map fun y => if y.desc == d.id && y.block == block then { y with sums := y.sums ++ [sums] } else y }

/-- The row sum of a place of an open output block, from the partials of its chunks (R382, R421). -/
def reducedSum (s : State) (d : Desc) (block i : Nat) : Int :=
  match s.units.dsp.scratch.find? fun y => y.desc == d.id && y.block == block with
  | some y => (y.sums.map fun l => l[i]?.getD 0).sum
  | none => 0

/-- A chunk of a split tile: its partial sums go to the block's scratch (R373, R382), its row sums are kept with them (R421). -/
def chunkTile (d : Desc) (base t : Nat) : Prog :=
  .look fun s =>
    let ks := t % d.kSplit
    let b := t / d.kSplit
    let k1 := min (redLen d.words) (ks * d.kChunk + d.kChunk)
    let part := fun m n => chunkAcc s d.words m n (ks * d.kChunk) k1
    Prog.all [
      Prog.each (blockRows d b) fun m => Prog.each (blockCols d b) fun n =>
        store32 (partialAddr d base ks (m - (blockRows d b).headD 0) (n - (blockCols d b).headD 0)) (part m n).1,
      Prog.when (decide ((zpModes d.words).2 = 2))
        (keepSums d b ((blockRows d b).flatMap fun m => (blockCols d b).map fun n => rowPart s d.words m n (span (ks * d.kChunk) k1))),
      applyMarks ⟨0, 0, ((blockRows d b).flatMap fun m => (blockCols d b).map fun n => (part m n).2).sum⟩]

/-- A split-K reduce item: the partials in chunk order, then the post-processing once (R382). -/
def reduceTile (d : Desc) (base b : Nat) : Prog :=
  .look fun s =>
    let ws := d.words
    let r0 := (blockRows d b).headD 0
    let c0 := (blockCols d b).headD 0
    writeRows (trefAt ws 9) c0 ((blockRows d b).map fun m => (m, (blockCols d b).map fun n =>
      let at' := fun ks => s.rd32 (partialAddr d base ks (m - r0) (n - c0))
      let a := (span 1 d.kSplit).foldl (fun acc ks => ((addAcc (intPath ws) acc.1 (at' ks)).1, acc.2 + (addAcc (intPath ws) acc.1 (at' ks)).2))
        (at' 0, 0)
      let p := postProcess s ws n (reducedSum s d b ((m - r0) * (blockCols d b).length + (n - c0))) a.1
      (p.1, p.2 + a.2)))

/-- The rows of tile t of a vector command (R355). -/
def vectorRows (d : Desc) (t : Nat) : List Nat := span (64 * t) (min d.extent (64 * t + 64))

/-- The smoothing factor of a column of a QUANT. -/
def smoothing (s : State) (ws : List Word) (c : Nat) : Num :=
  if bit (wordAt ws 10) 25 then numOf Fmt.bf16 (s.rd16 ((wordAt ws 11).toNat + 2 * c)) else .fin false 1 0

/-- The scale of an element of a QUANT. -/
def quantScale (s : State) (ws : List Word) (r c : Nat) : Num :=
  let g := bits (wordAt ws 10) 27 26
  scaleOf s (wordAt ws 9).toNat (bits (wordAt ws 10) 31 28) (if g = 0 then 0 else if g = 1 then c else r)

/-- Distance between two values. -/
def Num.dist (a b : Num) : Num := (Num.add a b.neg).abs

/-- Index of the codebook entry nearest to a value; the lower of equal ones (R431). -/
def nearestEntry (s : State) (cb c count : Nat) (v : Num) : Nat :=
  let val := fun i => let e := s.cbEntry cb c i count; numOf e.1 e.2
  (List.range count).foldl (fun best i => if ((val i).dist v).lt ((val best).dist v) then i else best) 0

/-- The value x × f[c] of a QUANT, before scaling; codebook indices decoded (R429, R432). -/
def quantIn (s : State) (ws : List Word) (r c : Nat) : Num :=
  let x := s.decoded (trefAt ws 1) (wordAt ws 9).toNat r c c
  Num.mul (numOf x.1 x.2) (smoothing s ws c)

/-- One element of a QUANT (R430 to R432). -/
def quantElem (s : State) (ws : List Word) (r c : Nat) : Narrowed :=
  let x := trefAt ws 1
  let y := trefAt ws 5
  let zp := signed 16 (bits (wordAt ws 12) 15 0)
  let v := quantIn s ws r c
  if bit (wordAt ws 10) 23 then
    if isCb x.fmt then narrow y.fmt v
    else narrow y.fmt (Num.mul (if zp = 0 then v else Num.add v (Num.ofInt (-zp))) (quantScale s ws r c))
  else if isCb y.fmt then
    if v = .nan then ⟨0, false, true⟩ else ⟨nearestEntry s (wordAt ws 9).toNat c (cbCount y.fmt) v, false, false⟩
  else
    let p := Num.mul v (quantScale s ws r c)
    narrow y.fmt (if zp = 0 then p else Num.add p (Num.ofInt zp))

/-- The larger of two FP32 magnitudes. -/
def maxMag (a b : Word) : Word := if (fp32 a).lt (fp32 b) then b else a

/-- Put a magnitude into a collector's maxima. -/
def putMax (k : Nat) (v : Word) : List (Nat × Word) → List (Nat × Word)
  | [] => [(k, v)]
  | (i, w) :: t => if i = k then (i, maxMag w v) :: t else (i, w) :: putMax k v t

/-- A QUANT item feeds its collector (R436 to R438). -/
def feedCollector (ws : List Word) (rows : List Nat) : Prog :=
  .look fun s =>
    let n := bits (wordAt ws 10) 19 16
    let ctrl := s.stored (Reg.qsColCtrl0 + 4 * n)
    let cols := (trefAt ws 1).cols
    let limit := if bit ctrl 30 then bits ctrl 26 16 else cols
    let seen := rows.flatMap fun r => (List.range (min cols limit)).map fun c => (if bit ctrl 30 then c else 0, (quantIn s ws r c).abs)
    let trunc := decide (limit < cols) && !rows.isEmpty
    let bad := seen.any fun x => x.2 == .nan
    Prog.when (bit (wordAt ws 10) 24 && bit ctrl 31) (.seq
      (modQs fun q => { q with coll := (List.range 16).map fun i =>
        let k := q.coll[i]?.getD Coll.reset
        if i = n then { k with
          maxima := (seen.filter fun x => x.2 != .nan).foldl (fun l x => putMax x.1 (toFp32 x.2) l) k.maxima
          trunc := k.trunc || trunc, nan := k.nan || bad } else k })
      (setFlagIf trunc .collTrunc))

/-- A QUANT item (R430 to R432). Its collector takes the values that it quantises (R437): the output may overlap its input. -/
def quantTile (d : Desc) (t : Nat) : Prog :=
  .look fun s =>
    let rows := vectorRows d t
    .seq (feedCollector d.words rows)
      (writeRows (trefAt d.words 5) 0 (rows.map fun r => (r, (List.range (trefAt d.words 1).cols).map fun c => (quantElem s d.words r c, 0))))

/-- Sign of H[i][j] (R434). -/
def hadamardNeg (i j : Nat) : Bool := (popCount (BitVec.ofNat 64 (i &&& j))) % 2 = 1

/-- One element of a ROTATE (R434, R435). -/
def rotateElem (s : State) (ws : List Word) (r c : Nat) : Narrowed :=
  let base := c / 64 * 64
  let term := fun j => let x := s.num (trefAt ws 1) r (base + j); if hadamardNeg (c % 64) j then x.neg else x
  narrow (trefAt ws 5).fmt (Num.shift (-3) (Num.sum ((List.range 64).map term)))

/-- A ROTATE item (R434). -/
def rotateTile (d : Desc) (t : Nat) : Prog :=
  .look fun s => writeRows (trefAt d.words 5) 0 ((vectorRows d t).map fun r =>
    (r, (List.range (trefAt d.words 5).cols).map fun c => (rotateElem s d.words r c, 0)))

/-- Fraction bits of the fixed-point exponential. -/
abbrev expBits : Nat := 256

/-- e^x in units of 2^-256 for an x from 0 in units of 2^-256: a series at x / 256, then eight squarings. -/
def expFixed (x : Nat) : Nat :=
  let y := x / 256
  let series := ((List.range 80).foldl (fun (acc : Nat × Nat) i => (acc.1 + acc.2, acc.2 * y / ((i + 1) * 2 ^ expBits))) (0, 2 ^ expBits)).1
  (List.range 8).foldl (fun v _ => v * v / 2 ^ expBits) series

/-- Magnitude code of m × 2^e cut down to FP32. -/
def cutFp32 (m : Nat) (e : Int) : Nat :=
  if m = 0 then 0
  else
    let p := floatFmt Fmt.fp32
    let u := max p.low (e + Int.ofNat (Nat.log2 m) - Int.ofNat p.mbits)
    (u - p.low).toNat * 2 ^ p.mbits + (if u ≤ e then m * 2 ^ (e - u).toNat else m / 2 ^ (u - e).toNat)

/-- The FP32 code below the exponential of an exact value that is neither 0 nor beyond the range of FP32 results. -/
def expBelow (neg : Bool) (m : Nat) (e : Int) : Nat :=
  let x := roundUnits m e (-256)
  let v := expFixed (min x (128 * 2 ^ expBits))
  cutFp32 (if neg then 2 ^ (2 * expBits) / v else v) (-256)

/-- The Vector Engine's exp (R446): one of the two FP32 values around the exact one, each less than 1 ulp from it; which is free, and
exactly 1 at a zero (log entry 10). -/
def exp32 (w : Word) : Num :=
  match fp32 w with
  | .nan => .nan
  | .inf neg => if neg then Num.zero else .inf false
  | .fin neg m e =>
    if m = 0 then .fin false 1 0
    else
      let c := expBelow neg m e
      fp32 (BitVec.ofNat 32 (min 0x7F7FFFFF (if Config.expUpper w then c + 1 else c)))

/-- The largest of some scores; a NaN among them wins, since a NaN propagates (R498). -/
def maxScore (l : List Word) : Num :=
  l.foldl (fun m w => if m = .nan || fp32 w = .nan then .nan else if m.lt (fp32 w) then fp32 w else m) (.inf true)

/-- The weights of one softmax row as FP32 values: kept scores carry their word, skipped ones none (R498). -/
def softmaxRow (scores : List (Option Word)) : List Num :=
  let m := maxScore (scores.filterMap id)
  let p := scores.map fun
    | none => Num.zero
    | some w => exp32 (toFp32 (Num.add (fp32 w) m.neg))
  let sigma := p.foldl add32 Num.zero
  p.map fun x => div32 x sigma

/-- The row of a VECOP as exact values, before narrowing. The functions that no rule states are free (log entry 11). -/
def vecRow (s : State) (ws : List Word) (r : Nat) : List Num :=
  let x := trefAt ws 1
  let z := trefAt ws 9
  let op := bits (wordAt ws 13) 7 0
  let cols := min x.cols (trefAt ws 5).cols
  let xs := (List.range cols).map fun c => s.num x r c
  if op = 0x01 then softmaxRow (xs.map fun v => some (toFp32 v))
  else if op = 0x04 then (List.range cols).map fun c => Num.add (s.num x r c) (s.num z r c)
  else if op = 0x05 then (List.range cols).map fun c => Num.mul (s.num x r c) (s.num z r c)
  else if op = 0x08 then xs.map relu
  else if op = 0x09 then xs
  else
    let zs := (List.range z.rows).flatMap fun i => (List.range z.cols).map fun c => toFp32 (s.num z i c)
    (List.range cols).map fun c => fp32 (Config.vecValue op (xs.map toFp32) zs (wordAt ws 14) c)

/-- A VECOP item: each value is narrowed once into Y (R406, Table 8-7). -/
def vecopTile (d : Desc) (t : Nat) : Prog :=
  .look fun s => writeRows (trefAt d.words 5) 0 ((vectorRows d t).map fun r =>
    (r, (vecRow s d.words r).map fun v => (narrow (trefAt d.words 5).fmt v, 0)))

end Sys2Proof.Machine
end

