-- ==== Sys2Proof/Machine/Attend.lean ====
section
/-! DEFINITION. The parts of an attention block and the Pruner (chapter 12). -/

namespace Sys2Proof.Machine

/-- Heads and head width of an ATTEND (Table 8-4). -/
def heads (ws : List Word) : Nat × Nat := (bits (wordAt ws 17) 31 24, bits (wordAt ws 17) 15 0)

/-- Declared ROWS of K rounded up to a multiple of 64 (R494). -/
def paddedKeys (ws : List Word) : Nat := ceilDiv (trefAt ws 5).rows 64 * 64

/-- Bytes of an attention scratch block (R494). -/
def attnBlock (ws : List Word) : Nat := 128 * paddedKeys ws + 4 * paddedKeys ws

/-- Head of an attention block (R492). -/
def blockHead (d : Desc) (b : Nat) : Nat := b / ceilDiv d.extent 32

/-- Queries of an attention block (R492, R501). -/
def blockQueries (d : Desc) (b : Nat) : List Nat :=
  let j := b % ceilDiv d.extent 32
  span (32 * j) (min d.extent (32 * j + 32))

/-- Codebook block of K, and of V after it (R489). -/
def kvBook (s : State) (ws : List Word) (i : Nat) : Nat := (s.rd32 ((wordAt ws 21).toNat + 4 * i)).toNat

/-- The value of K or V at a key and a column: K is TREF 5 and codebook 0, V is TREF 9 and codebook 1. -/
def kvNum (s : State) (ws : List Word) (first book key col : Nat) : Num :=
  let x := s.decoded (trefAt ws first) (kvBook s ws book) key col col
  numOf x.1 x.2

/-- Address of a score or weight in a scratch block: query by query. DESIGN CHOICE, log entry 19. -/
def scoreAddr (ws : List Word) (base q k : Nat) : Nat := base + 4 * (q * paddedKeys ws + k)

/-- Address of the mask byte of a query and a key in a scratch block (R494). -/
def maskAddr (ws : List Word) (base q k : Nat) : Nat := base + 128 * paddedKeys ws + (q * paddedKeys ws + k) / 8

/-- Whether the mask skips a key for a query of the block. -/
def skippedAt (s : State) (ws : List Word) (base q k : Nat) : Bool := (s.rd8 (maskAddr ws base q k)).getLsbD (k % 8)

/-- Write the mask of the block: one row of booleans per query, true where a key is skipped. -/
def putMask (ws : List Word) (base : Nat) (rows : List (List Bool)) : Prog :=
  Prog.each ((List.range rows.length).zip rows) fun x =>
    .mem (maskAddr ws base x.1 0) ((List.range (paddedKeys ws / 8)).map fun i =>
      BitVec.ofNat 8 (fromBits ((List.range 8).map fun j => x.2[8 * i + j]?.getD false)))

/-- A word of the grade table's entry of the command's LAYER (Table 12-2). -/
def gradeWord (s : State) (ws : List Word) (off : Nat) : Word :=
  match s.eng.image with
  | none => 0
  | some im => s.rd32 (im.addr + im.gradeOff + 16 + 48 * bits (wordAt ws 18) 31 24 + off)

/-- R_FAR of the tick's grade; none where the far criterion is off. -/
def farRadius (s : State) (ws : List Word) : Option Nat :=
  let r := bits (gradeWord s ws (16 + 8 * s.en.cur)) 15 0
  if r = 0xFFFF then none else some r

/-- THR_W of the tick's grade. -/
def weakThreshold (s : State) (ws : List Word) : Word := gradeWord s ws (20 + 8 * s.en.cur)

/-- Whether the Pruner runs for an ATTEND in this tick (R502). -/
def prunerRuns (s : State) (ws : List Word) : Bool :=
  decide (bits (wordAt ws 18) 31 24 ≠ 0xFF) && ((farRadius s ws).isSome || weakThreshold s ws != 0x80000000)

/-- A position of a table; none where X is 0x8000 (Table 12-1). -/
def positionAt (s : State) (table i : Nat) : Option (Int × Int × Int) :=
  let a := table + 8 * i
  if s.rd16 a = 0x8000 then none else some (signed 16 (s.rd16 a), signed 16 (s.rd16 (a + 2)), signed 16 (s.rd16 (a + 4)))

/-- The far criterion (R503). -/
def farSkip (s : State) (ws : List Word) (q k : Nat) : Bool :=
  match farRadius s ws with
  | none => false
  | some r =>
    let pos := (wordAt ws 19).toNat
    match positionAt s (s.rd32 pos).toNat q, positionAt s (s.rd32 (pos + 4)).toNat k with
    | some a, some b =>
      let sq := fun v : Int => v * v
      decide (Int.ofNat (r * r) < sq (a.1 - b.1) + sq (a.2.1 - b.2.1) + sq (a.2.2 - b.2.2))
    | _, _ => false

/-- An operand of the estimate narrowed to I4 (R504). -/
def estOperand (shift : Int) (v : Num) : Narrowed := narrow Fmt.i4 (Num.shift shift v)

/-- QSH and KSH of the command's layer (Table 12-2). -/
def estShifts (s : State) (ws : List Word) : Int × Int :=
  (signed 8 (bits (gradeWord s ws 0) 15 8), signed 8 (bits (gradeWord s ws 0) 7 0))

/-- The I4 operands of a query and of a key of a head (R504). -/
def q4 (s : State) (ws : List Word) (h q : Nat) : List Narrowed :=
  (List.range (heads ws).2).map fun c => estOperand (estShifts s ws).1 (s.num (trefAt ws 1) q (h * (heads ws).2 + c))

/-- The I4 operands of a key of a head (R504). -/
def k4 (s : State) (ws : List Word) (h k : Nat) : List Narrowed :=
  (List.range (heads ws).2).map fun c => estOperand (estShifts s ws).2 (kvNum s ws 5 0 k (h * (heads ws).2 + c))

/-- The estimate of a query and a key (R504). -/
def estimateOf (s : State) (ws : List Word) (h q k : Nat) : Int :=
  ((q4 s ws h q).zip (k4 s ws h k)).foldl (fun acc x => acc + signed 4 x.1.code * signed 4 x.2.code) 0

/-- A decision about a key: far-skipped, weak-skipped, its estimate. -/
structure Decision where
  far  : Bool
  weak : Bool
  est  : Int
  deriving DecidableEq, Repr

/-- The decisions of a query, before K_MIN (R503 to R506). -/
def decisions (s : State) (ws : List Word) (h q nk : Nat) : List Decision :=
  let thr := weakThreshold s ws
  (List.range nk).map fun k =>
    let e := estimateOf s ws h q k
    { far := farSkip s ws q k, weak := decide (e < signed 32 thr.toNat), est := e }

/-- Insert a key into an order of restoration: higher estimates first, then lower keys (R507). -/
def insertKey (x : Nat × Int) : List (Nat × Int) → List (Nat × Int)
  | [] => [x]
  | y :: t => if y.2 < x.2 || (y.2 == x.2 && decide (x.1 < y.1)) then x :: y :: t else y :: insertKey x t

/-- The keys that K_MIN restores for a query (R507). -/
def restoredKeys (ds : List Decision) (kmin : Nat) : List Nat :=
  let idx := (List.range ds.length).zip ds
  let skipped := (idx.filter fun x => x.2.far || x.2.weak).map fun x => (x.1, x.2.est)
  let kept := ds.length - skipped.length
  ((skipped.foldl (fun l x => insertKey x l) []).take (min kmin ds.length - kept)).map fun x => x.1

/-- PRUNE of a block (R503 to R508): its mask, the operands' marks and the counts. -/
def prunePart (d : Desc) (base b : Nat) : Prog :=
  .look fun s =>
    let ws := d.words
    let h := blockHead d b
    let rows := (blockQueries d b).map fun q =>
      let ds := decisions s ws h q d.keys
      (ds, restoredKeys ds (bits (wordAt ws 18) 15 0))
    let skip := fun (x : List Decision × List Nat) => ((List.range x.1.length).zip x.1).map fun y =>
      (y.2.far || y.2.weak) && !decide (y.1 ∈ x.2)
    let count := fun (p : Decision → Bool → Bool) => (rows.map fun x => ((x.1.zip (skip x)).filter fun y => p y.1 y.2).length).sum
    let restored := (rows.map fun x => x.2.length).sum
    let ops := ((blockQueries d b).flatMap fun q => q4 s ws h q) ++ (List.range d.keys).flatMap fun k => k4 s ws h k
    Prog.all [
      putMask ws base (rows.map skip), applyMarks (marksOf ops),
      modQs fun c => { c with
        kept := c.kept + count (fun _ k => !k), skipFar := c.skipFar + count (fun x k => k && x.far)
        skipWeak := c.skipWeak + count (fun x k => k && !x.far), restored := c.restored + restored },
      setFlagIf (decide (restored ≠ 0)) .kminHit]

/-- The score of a query and a key, narrowed into FP32 (R408, R497), and saturations of its accumulator. -/
def scoreOf (s : State) (ws : List Word) (h q k : Nat) : Narrowed × Nat :=
  let dh := (heads ws).2
  let a := accGroups ((kGroups 0 dh).map fun g => g.map fun c =>
    Num.mul (s.num (trefAt ws 1) q (h * dh + c)) (kvNum s ws 5 0 k (h * dh + c)))
  (narrowFloat Fmt.fp32 (Num.mul (fp32 a.1) (numOf Fmt.bf16 (bits (wordAt ws 20) 15 0))), a.2)

/-- SCORE of a block (R497, R500, R501). Without a PRUNE part nothing is skipped. A score that saturates counts (R411), a NaN is
settled at the narrowing of the output (R498). -/
def scorePart (d : Desc) (base b : Nat) : Prog :=
  .look fun s =>
    let ws := d.words
    let h := blockHead d b
    let qs := (List.range (blockQueries d b).length).zip (blockQueries d b)
    let skip := fun i k => d.typ == 2 && skippedAt s ws base i k
    let sc := fun (x : Nat × Nat) k => if skip x.1 k then (⟨0xFF800000, false, false⟩, 0) else scoreOf s ws h x.2 k
    let all := qs.flatMap fun x => (List.range d.keys).map (sc x)
    Prog.all [
      Prog.when (d.typ != 2) (putMask ws base (qs.map fun _ => [])),
      Prog.each qs fun x => .mem (scoreAddr ws base x.1 0) ((List.range d.keys).flatMap fun k => leBytes 4 (sc x k).1.code),
      applyMarks ⟨(all.filter fun x => x.1.sat).length, 0, (all.map fun x => x.2).sum⟩]

/-- SOFTMAX of a block (R498): each weight narrowed to BF16, kept as the FP32 word of the same value. -/
def softmaxPart (d : Desc) (base b : Nat) : Prog :=
  .look fun s =>
    let ws := d.words
    let rows := (List.range (blockQueries d b).length).map fun i =>
      (i, (softmaxRow ((List.range d.keys).map fun k =>
        if skippedAt s ws base i k then none else some (s.rd32 (scoreAddr ws base i k)))).map fun p => narrow Fmt.bf16 p)
    .seq (Prog.each rows fun x => .mem (scoreAddr ws base x.1 0) (x.2.flatMap fun n => wordBytes (BitVec.ofNat 32 (n.code * 65536))))
      (applyMarks (marksOf (rows.flatMap fun x => x.2)))

/-- PV of a block (R499, R500). The sum of an omitted group is +0. -/
def pvPart (d : Desc) (base b : Nat) : Prog :=
  .look fun s =>
    let ws := d.words
    let dh := (heads ws).2
    let h := blockHead d b
    let qs := (List.range (blockQueries d b).length).zip (blockQueries d b)
    let p := fun i k => s.rd32 (scoreAddr ws base i k)
    let live := fun g : List Nat => g.any fun k => qs.any fun x => p x.1 k != 0
    writeRows (trefAt ws 13) (h * dh) (qs.map fun x => (x.2, (List.range dh).map fun c =>
      let a := accGroups ((kGroups 0 d.keys).map fun g =>
        if live g then g.map fun k => Num.mul (fp32 (p x.1 k)) (kvNum s ws 9 1 k (h * dh + c)) else [])
      (narrow (trefAt ws 13).fmt (fp32 a.1), a.2)))

end Sys2Proof.Machine
end

