-- ==== Sys2Proof/Machine/Runs.lean ====
section
/-! DEFINITION. The engines' lists (chapter 8): the running entry of an engine, the command at its head, fence counters, shape
words, and the trace writer (chapter 9). -/

namespace Sys2Proof.Machine

/-- The image whose slot table runs: the loaded one, or the standing model during a watch frame (R345, R568). -/
def State.schedImage (s : State) : Option Image :=
  if s.wm.frame then s.wm.image else if s.pwr.level = .watch then none else s.eng.image

/-- The slot entry of a number in the image whose slot table runs. -/
def State.slot? (s : State) (entry : Nat) : Option Slot := s.schedImage.bind fun im => im.slots[entry]?

/-- Words of a command's header (Table 8-2): OPC, NW, B, PRIO, ME, CMD_ID. -/
def hdrOpc (h : Word) : Nat := bits h 31 24
def hdrNw (h : Word) : Nat := bits h 23 18
def hdrBarrier (h : Word) : Bool := bit h 17
def hdrPrio (h : Word) : Nat := bits h 16 14
def hdrMe (h : Word) : Nat := bits h 13 12
def hdrId (h : Word) : Nat := bits h 11 0

/-- The running entry of an engine. -/
def State.runOf (s : State) (e : Engine) : Option Run := s.eng.run? e

/-- Set an engine's own place. -/
def setOwn (e : Engine) (r : Option Run) (x : Eng) : Eng :=
  match e with
  | .me0 => { x with me0 := r }
  | .me1 => { x with me1 := r }
  | .ve => { x with ve := r }
  | .xe => { x with xe := r }
  | .pe => { x with pe := r }

/-- The place that holds an engine's entry: ME0's for an entry on both matrix engines. -/
def Eng.place (x : Eng) (e : Engine) : Engine := if e = .me1 && x.me0.any (fun r => r.both) then .me0 else e

/-- Change an engine's running entry. -/
def modRun (e : Engine) (f : Run → Run) : Prog := modEng fun x => setOwn (x.place e) ((x.run? e).map f) x

/-- Take an entry off its engine or engines. -/
def endRun (e : Engine) : Prog := modEng fun x => setOwn (x.place e) none x

/-- ENG code of an engine's entry (Table 2-2). -/
def srcCode (e : Engine) (r : Run) : Nat :=
  if r.both then 2
  else
    match e with
    | .me0 => 0
    | .me1 => 1
    | .ve => 3
    | .xe => 4
    | .pe => 5

/-- Address of the command at the head of a list. -/
def Run.at (r : Run) : Nat := r.list + 4 * r.pos

/-- The words of the command at the head of a list, read now (R321). -/
def State.command (s : State) (r : Run) : List Word :=
  (List.range (hdrNw (s.rd32 r.at))).map fun i => s.rd32 (r.at + 4 * i)

/-- Whether work items of an entry's commands have not completed. -/
def State.outstanding (s : State) (entry : Nat) : Bool := s.units.dsp.descs.any fun d => d.entry == entry

/-- ENG_POS of an engine: its entry and the word offset of the command being issued (Table 8-14). -/
def setPos (e : Engine) (entry pos : Nat) : Prog := .reg (Reg.engPos0 + 4 * engineIndex e) (place entry 24 16 ||| place pos 15 0)

/-- ENG_POS of the engines of an entry. -/
def showPos (e : Engine) (r : Run) (pos : Nat) : Prog :=
  if r.both then .seq (setPos .me0 r.entry pos) (setPos .me1 r.entry pos) else setPos e r.entry pos

/-- The head command has issued: the list goes on behind it. -/
def advance (e : Engine) (r : Run) (nw : Nat) : Prog :=
  let pos := r.pos + nw
  .seq (modRun e fun x => { x with pos := pos, block := .none, ended := decide (x.len ≤ pos), waited := false })
    (Prog.when (decide (pos < r.len)) (showPos e r pos))

/-- The command at the head of an engine's list may issue: its opcode is at the head, the list is not blocked, and its
barrier, or the rule that SIGNAL and SHAPE_SET act after earlier work items, is met (R318, R319). -/
def mayIssue (s : State) (e : Engine) (opc : Nat) : Bool :=
  match s.runOf e with
  | none => false
  | some r =>
    let h := s.rd32 r.at
    !r.ended && r.block == .none && hdrOpc h == opc &&
      !((hdrBarrier h || opc == 0x03 || opc == 0x05) && s.outstanding r.entry)

/-- Issue the command at the head of an engine's list, if it is the one named and may issue. -/
def issue (e : Engine) (opc : Nat) (k : Run → List Word → Prog) : Prog :=
  .look fun s => Prog.when (mayIssue s e opc)
    (match s.runOf e with
      | none => .skip
      | some r => k r (s.command r))

/-- Fence counter n (R331). -/
def State.fence (s : State) (n : Nat) : Nat := s.fld (Reg.engFc0 + 4 * n) 15 0

/-- Add to a fence counter, saturating (R331, R332). -/
def addFence (n amount : Nat) : Prog := addSat (Reg.engFc0 + 4 * n) 15 0 amount

/-- Set every fence counter to 0 (R331). -/
def clearFences : Prog := Prog.each (List.range 64) fun n => .reg (Reg.engFc0 + 4 * n) 0

/-- The extent that a shape word gives a tensor (R339, R340). -/
def shapeExtent (s : State) (addr rows : Nat) : Nat :=
  let w := s.rd32 addr
  if bits w 31 16 ≠ s.tick.num.toNat % 65536 then 0 else min (bits w 15 0) rows

/-- The flags of reading a shape word (R339, R340). -/
def shapeFlags (s : State) (addr rows : Nat) : Prog :=
  let w := s.rd32 addr
  if bits w 31 16 ≠ s.tick.num.toNat % 65536 then .seq (setFlag .staleShape) (.reg Reg.engStaleAddr (BitVec.ofNat 32 addr))
  else Prog.when (decide (rows < bits w 15 0)) (.seq (setFlag .shapeClamp) (.reg Reg.engStaleAddr (BitVec.ofNat 32 addr)))

/-- Extent of a command whose tensors share one shape word: the first dynamic tensor's, else the ROWS of the first (R338). Where they
declare different ROWS, the first one's clamp the extent (R340; DESIGN CHOICE, log entry 107). -/
def commandExtent (s : State) (ts : List Tref) : Nat :=
  match ts.find? fun t => t.dyn with
  | some t => shapeExtent s t.shape t.rows
  | none => (ts.head?.map fun t => t.rows).getD 0

/-- The flags of resolving a command's extent (R338). -/
def extentFlags (s : State) (ts : List Tref) : Prog :=
  match ts.find? fun t => t.dyn with
  | some t => shapeFlags s t.shape t.rows
  | none => .skip

/-- The words at which the TREFs of a command begin (Tables 8-4 to 8-8). -/
def trefPlaces (opc : Nat) : List Nat :=
  if opc = 0x12 then [1, 5, 9, 13]
  else if opc = 0x10 ∨ opc = 0x11 ∨ opc = 0x32 ∨ opc = 0x24 then [1, 5, 9]
  else if opc = 0x30 ∨ opc = 0x31 then [1, 5]
  else if opc = 0x20 ∨ opc = 0x21 ∨ opc = 0x22 then [1]
  else []

/-- The codebook block of a tensor's format at an address, header and codebooks (R427); nothing where the format holds no indices. -/
def codebookArea (s : State) (fmt at' : Nat) : List (Nat × Nat) :=
  let h := s.rd32 at'
  let one := cbCount fmt * (if bits h 31 28 = Fmt.bf16 then 2 else 1)
  if isCb fmt then [(at', 16 + bits h 15 0 * (16 * ceilDiv one 16))] else []

/-- The memory that a command names for R520: its tensors at their declared ROWS, its codebook blocks, its position tables. -/
def namedAreas (s : State) (ws : List Word) : List (Nat × Nat) :=
  let o := hdrOpc (wordAt ws 0)
  let word := fun i => (wordAt ws i).toNat
  ((trefPlaces o).map fun i => ((trefAt ws i).addr, (trefAt ws i).span (trefAt ws i).rows)) ++
    (if o = 0x10 ∨ o = 0x11 then codebookArea s (trefAt ws 5).fmt (word 16)
     else if o = 0x30 then codebookArea s (trefAt ws (if bit (wordAt ws 10) 23 then 1 else 5)).fmt (word 9)
     else if o = 0x12 then
      codebookArea s (trefAt ws 5).fmt (s.rd32 (word 21)).toNat ++ codebookArea s (trefAt ws 9).fmt (s.rd32 (word 21 + 4)).toNat ++
        (if word 19 = 0 then [] else [((s.rd32 (word 19)).toNat, 8 * (trefAt ws 1).rows), ((s.rd32 (word 19 + 4)).toNat, 8 * (trefAt ws 5).rows)])
     else [])

/-- Bases and bytes per row of the scene-memory regions (R514). -/
def smRegions (s : State) : List (Nat × Nat) :=
  [((s.stored Reg.smKBase).toNat, s.fld Reg.smRowbytes 15 0), ((s.stored Reg.smVBase).toNat, s.fld Reg.smRowbytes 31 16),
   ((s.stored Reg.smPBase).toNat, 8)]

/-- Rows of one scene-memory slot, and its ring slots. -/
def smShape (s : State) : Nat × Nat := (s.fld Reg.smRows 15 0, s.fld Reg.smCtrl 5 0)

/-- Whether two ranges of bytes share one. -/
def overlaps (a n b m : Nat) : Bool := decide (a < b + m) && decide (b < a + n)

/-- Whether a command must wait for a scene-memory move (R520). -/
def smHolds (s : State) (ws : List Word) : Bool :=
  s.sm.moving && (smRegions s).any fun g => (namedAreas s ws).any fun a =>
    overlaps a.1 a.2 g.1 (((smShape s).2 + 1) * (smShape s).1 * g.2)

/-- A command waits for a scene-memory move: SM_WAIT, once for the command (R520). -/
def smWaitOnce (e : Engine) (r : Run) : Prog :=
  Prog.when (!r.waited) (.seq (modRun e fun x => { x with waited := true }) (setFlag .smWait))

/-- Issue a command that names tensors: it waits while a scene-memory move that it would meet runs (R520). -/
def issueTensor (e : Engine) (opc : Nat) (k : Run → List Word → Prog) : Prog :=
  issue e opc fun r ws => .look fun s => if smHolds s ws then smWaitOnce e r else k r ws

/-- Trace events (Table 9-4). -/
abbrev Ev.enq : Nat := 0
abbrev Ev.dispatch : Nat := 1
abbrev Ev.prefetch : Nat := 2
abbrev Ev.start : Nat := 3
abbrev Ev.done : Nat := 4
abbrev Ev.stall : Nat := 5
abbrev Ev.cancel : Nat := 6
abbrev Ev.backpressure : Nat := 7

/-- Whether a record passes the filters (R396, Table 9-6). -/
def tracePasses (s : State) (ev queue eng unit : Nat) : Bool :=
  s.flag Reg.trCtrl 0 && s.pwr.level != .keep && s.flag Reg.trCtrl (8 + ev) && s.flag Reg.trCtrl (16 + queue) &&
    s.flag Reg.trCtrl (24 + min eng 4) && decide (s.fld Reg.trUnit 7 0 ≤ unit) && decide (unit ≤ s.fld Reg.trUnit 23 16)

/-- Write a trace record (R396, R397, Table 9-2, Table 9-4). The buffer of 64 records takes those of one instant. A record at
an offset that is a multiple of 4,096 starts the TRACE_SYNC pulse (R660). -/
def trace (ev unit info workId : Nat) (d : Desc) : Prog :=
  .look fun s => Prog.when (tracePasses s ev d.prio d.src unit)
    (if 64 ≤ s.units.trace.buffered then setFlag .traceDrop
     else
      let p := s.fld Reg.trWptr 17 0
      Prog.all [
        unitStore ((s.stored Reg.trBase).toNat + p)
          (wordBytes (place s.offset 31 12 ||| place ev 11 8 ||| place d.prio 7 5) ++
            wordBytes (place (s.tick.num.toNat % 65536) 31 16 ||| place unit 15 8 ||| place info 7 0) ++ wordBytes (place workId 31 0) ++
            wordBytes (place d.cmdId 31 20 ||| place d.entry 19 11 ||| place d.src 10 8)),
        setFld Reg.trWptr 17 0 ((p + 16) % 262144), modTrace fun t => { t with buffered := t.buffered + 1 },
        setFlagIf (decide (262144 ≤ p + 16)) .traceWrap,
        Prog.when (decide (p % 4096 = 0)) (modPins fun q => { q with pulse := true })])

/-- WORK_ID of a tile (R351). -/
def workId (d : Desc) (tile : Nat) : Nat := d.id % 65536 * 65536 + tile

end Sys2Proof.Machine
end

