-- ==== Sys2Proof/Machine/Units.lean ====
section
/-! DEFINITION. The Dispatcher and its units (chapter 9): ready queues, hand-out, prefetch, scratch, completion, cancellation,
and the Picker's items (chapter 11). -/

namespace Sys2Proof.Machine

/-- Score code of a logit (R443). -/
def scoreCode (v : Num) : Narrowed := narrow Fmt.i16 (Num.shift 8 v)

/-- Score codes of a token's logits. -/
def tokenCodes (s : State) (ws : List Word) (t : Nat) : List Narrowed :=
  (List.range (bits (wordAt ws 7) 8 0)).map fun e => scoreCode (s.num (trefAt ws 1) t e)

/-- The expert with the highest code among some; the lower number of equal ones (R444). -/
def bestExpert (codes : List Narrowed) (among : List Nat) : Nat :=
  let c := fun e => signed 16 ((codes[e]?.map fun n => n.code).getD 0)
  match among with
  | [] => 0
  | e :: t => t.foldl (fun best x => if c best < c x then x else best) e

/-- A token tag (Table 11-1). -/
def tagWord (src token rank expert : Nat) : Word := place src 31 26 ||| place token 25 14 ||| place rank 13 13 ||| place expert 7 0

/-- Gates of a top-2 token (R445). -/
def gatePair (c1 c2 : Int) : Nat × Nat :=
  let d := fp32 (toFp32 (Num.shift (-8) (Num.ofInt (c2 - c1))))
  let x := exp32 (toFp32 d)
  let den := add32 (.fin false 1 0) x
  ((narrow Fmt.bf16 (div32 (.fin false 1 0) den)).code, (narrow Fmt.bf16 (div32 x den)).code)

/-- Ranks of a ROUTE: 1, or 2 with TOP2. -/
def routeRanks (ws : List Word) : Nat := if bit (wordAt ws 7) 31 then 2 else 1

/-- Tags and gates of a token (R444, R445, R447). -/
def routeToken (ws : List Word) (t : Nat) : Prog :=
  .look fun s =>
    let codes := tokenCodes s ws t
    let n := bits (wordAt ws 7) 8 0
    let e1 := bestExpert codes (List.range n)
    let e2 := bestExpert codes ((List.range n).filter fun e => e != e1)
    let c := fun e => signed 16 ((codes[e]?.map fun x => x.code).getD 0)
    let i := t * routeRanks ws
    let tag := (wordAt ws 5).toNat
    let gate := (wordAt ws 6).toNat
    if bit (wordAt ws 7) 31 then Prog.all [
      store32 (tag + 4 * i) (tagWord s.link.addr.toNat t 0 e1), store32 (tag + 4 * i + 4) (tagWord s.link.addr.toNat t 1 e2),
      .mem (gate + 2 * i) (leBytes 2 (gatePair (c e1) (c e2)).1), .mem (gate + 2 * i + 2) (leBytes 2 (gatePair (c e1) (c e2)).2)]
    else .seq (store32 (tag + 4 * i) (tagWord s.link.addr.toNat t 0 e1)) (.mem (gate + 2 * i) (leBytes 2 0x3F80))

/-- A Picker item (R443 to R447). -/
def routeTile (d : Desc) (t : Nat) : Prog :=
  .look fun s => .seq (Prog.each (vectorRows d t) fun r => routeToken d.words r)
    (applyMarks (marksOf ((vectorRows d t).flatMap fun r => tokenCodes s d.words r)))

/-- The per-expert counts of a ROUTE of E tokens (R448), from the tags it wrote. -/
def routeShapes (ws : List Word) (e : Nat) : Prog :=
  .look fun s => Prog.when (wordAt ws 8 != 0)
    (let tags := (List.range (e * routeRanks ws)).map fun i => bits (s.rd32 ((wordAt ws 5).toNat + 4 * i)) 7 0
     Prog.each (List.range (bits (wordAt ws 7) 8 0)) fun x =>
      writeShape ((wordAt ws 8).toNat + 4 * x) (tags.filter fun y => y == x).length)

/-- Whether work-item TYPEs run on matrix cores (Table 9-1, R493). -/
def matrixType (typ : Nat) : Bool := decide (typ ≤ 1) || typ == 3 || typ == 5 || typ == 10

/-- Whether a unit runs at the present level (R362): cores by BIST and level, vector units in WATCH and RUN. -/
def State.unitRuns (s : State) (u : Nat) : Bool :=
  match s.pwr.level with
  | .keep => false
  | .watch => decide (64 ≤ u) || decide (u ∈ watchCores s.pwr.coreOk)
  | .run => decide (64 ≤ u) || s.pwr.coreOk.getLsbD u

/-- Whether a unit may serve a descriptor's item (R362). -/
def State.eligible (s : State) (d : Desc) (typ u : Nat) : Bool :=
  s.unitRuns u && (if matrixType typ then decide (u < 32) && d.meCores.testBit 0 || decide (32 ≤ u) && decide (u < 64) && d.meCores.testBit 1
    else decide (64 ≤ u))

/-- The units of a group in order (R363). -/
def groupUnits : Group → List Nat
  | .low => span 0 32
  | .high => span 32 64
  | .vector => span 64 72

/-- A descriptor by number. -/
def Dsp.desc? (x : Dsp) (id : Nat) : Option Desc := x.descs.find? fun d => d.id == id

/-- Change a descriptor. -/
def modDesc (id : Nat) (f : Desc → Desc) : Prog := modDsp fun x => { x with descs := x.descs.map fun d => if d.id == id then f d else d }

/-- Whether a tile of a descriptor opens a scratch block, and its number (R374, R494). -/
def opensBlock (d : Desc) (t : Nat) : Option Nat :=
  if matrixType d.typ && decide (d.typ ≤ 1) then (if 1 < d.kSplit ∧ t % d.kSplit = 0 then some (t / d.kSplit) else none)
  else if d.typ = 2 ∨ d.typ = 3 then some t else none

/-- Bytes of a descriptor's scratch blocks (R373, R494). -/
def scratchSize (d : Desc) : Nat :=
  if d.typ = 2 ∨ d.typ = 3 then attnBlock d.words else (itemShape d.words).1 * (itemShape d.words).2 * 4 * d.kSplit

/-- The scratch region (R373). -/
def scratchRegion (s : State) : Nat × Nat :=
  let base := s.fld Reg.dspScratch 23 16 * 65536
  (base, base + s.fld Reg.dspScratch 7 0 * 65536)

/-- A free place for a block: the lowest address at which it fits. DESIGN CHOICE, log entry 19. -/
def freeScratch (s : State) (size : Nat) : Option Nat :=
  let open' := s.units.dsp.scratch
  let r := scratchRegion s
  if 2048 ≤ open'.length then none
  else
    ((r.1 :: open'.map fun b => b.addr + b.size).filter fun a =>
      decide (a + size ≤ r.2) && open'.all fun b => decide (a + size ≤ b.addr) || decide (b.addr + b.size ≤ a)).foldl
      (fun best a => match best with
        | none => some a
        | some x => some (min x a)) none

/-- Whether the next tile of a descriptor waits for a scratch block (R372, R495). -/
def scratchBlocked (s : State) (d : Desc) : Bool := (opensBlock d d.next).isSome && (freeScratch s (scratchSize d)).isNone

/-- The descriptors of one priority's queue that a unit may serve, in order. -/
def queueFor (s : State) (u q : Nat) : List Desc :=
  (s.units.dsp.ready.filterMap fun i => s.units.dsp.desc? i).filter fun d => d.prio == q && s.eligible d d.typ u

/-- The oldest continuation item of a priority that a unit may serve (R361). -/
def contFor (s : State) (u q : Nat) : Option Item :=
  s.units.dsp.conts.find? fun i => (s.units.dsp.desc? i.desc).any fun d => d.prio == q && s.eligible d i.typ u

/-- What a hand-out gives a unit: an item, and whether it is the next tile of a queued descriptor (R364). -/
def pickFor (s : State) (u : Nat) : Option (Item × Bool) :=
  ([7, 6, 5, 4, 3, 2, 1, 0].filterMap fun q =>
    match contFor s u q with
    | some i => some (i, false)
    | none => ((queueFor s u q).find? fun d => !scratchBlocked s d).map fun d => ({ desc := d.id, tile := d.next, typ := d.typ }, true)).head?

/-- The units of a group that may take an item, in the order in which R364 tries them; true for a prefetch slot. -/
def takers (s : State) (g : Group) : List (Nat × Bool) :=
  let us := groupUnits g
  let busy := fun u => s.units.dsp.active.any fun x => x.1 == u
  let full := fun u => s.units.dsp.prefetch.any fun x => x.1 == u
  ((us.filter fun u => !busy u).map fun u => (u, false)) ++
    (if s.flag Reg.dspCtrl 0 then (us.filter fun u => busy u && !full u).map fun u => (u, true) else [])

/-- A descriptor's next tile begins to wait for scratch: SCRATCH_WAIT, once for the wait (R495, Table 9-2). -/
def scratchStall (d : Desc) : Prog :=
  .seq (.look fun s => modDesc d.id fun x => { x with stallAt := some s.now }) (setFlag .scratchWait)

/-- The STALL record of a descriptor whose wait for scratch ends, with the wait in µs (R372, R394, Table 9-4; log entry 108). -/
def stallEnd (d : Desc) : Prog :=
  match d.stallAt with
  | none => .skip
  | some t => .look fun s => trace Ev.stall 0xFF (min 255 ((s.now - t) / 1000)) (workId d d.next) d

/-- SCR of a descriptor: its first open split-K block (Table 9-1). -/
def Dsp.scr (x : Dsp) (d : Desc) : Nat :=
  if d.kSplit ≤ 1 then 0 else ((x.scratch.find? fun b => b.desc == d.id).map fun b => b.addr).getD 0

/-- The eight words of a descriptor (R349, Table 9-1). -/
def Dsp.descWords (x : Dsp) (d : Desc) : List Word :=
  [place (if d.tiled then 1 else 0) 31 30 ||| place d.src 29 27 ||| placeBit d.vector 25 ||| place d.prio 24 22 ||| place d.cores 21 20 |||
      place d.typ 19 16 ||| place d.tiles 15 0,
    place (d.id % 65536) 31 16 ||| place d.cmdId 11 0, place d.cmdAddr 31 0, place d.entry 24 16 ||| place (d.extent % 65536) 15 0,
    place d.tileM 31 16 ||| place d.tileN 15 0, place d.kSplit 31 28 ||| place d.kChunk 19 0, place (x.scr d) 31 0,
    place d.next 31 16 ||| place d.doneTiles 15 0]

/-- The descriptor of a single item, which the Dispatcher itself produces from a command's (R361, R375, R493, Table 9-1). -/
def Item.single (i : Item) (d : Desc) : Desc :=
  { d with
    tiled := false, vector := !matrixType i.typ, cores := if matrixType i.typ then d.meCores else 3, typ := i.typ, tiles := 1, next := 0,
    doneTiles := 0 }

/-- The eight words of the descriptor in a slot or a continuation list (R349, R350, Table 9-1). -/
def Dsp.itemWords (x : Dsp) (d : Desc) (i : Item) : List Word := x.descWords (if i.typ = d.typ then d else i.single d)

/-- Take an item off its queue or list, opening its scratch block where it needs one (R359, R365, R374). -/
def takeItem (i : Item) (queued : Bool) (d : Desc) : Prog :=
  if !queued then modDsp fun x => { x with conts := x.conts.erase i }
  else .look fun s =>
    let opened := match opensBlock d d.next, freeScratch s (scratchSize d) with
      | some b, some a => [{ desc := d.id, block := b, addr := a, size := scratchSize d, chunks := 0, sums := [] : Scratch }]
      | _, _ => []
    modDsp fun x => { x with
      descs := x.descs.map fun y => if y.id == d.id then { y with
        next := y.next + 1, stallAt := none } else y
      ready := if d.next + 1 < d.tiles then x.ready else x.ready.filter fun j => j != d.id
      scratch := x.scratch ++ opened }

/-- An item enters a slot of a unit, with its records (R364, R366, R395). -/
def enterSlot (u : Nat) (pre : Bool) (i : Item) (d : Desc) : Prog :=
  .seq (modDsp fun x => if pre then { x with prefetch := x.prefetch ++ [(u, i)] } else { x with active := x.active ++ [(u, i)] })
    (if pre then trace Ev.prefetch u 0 (workId d i.tile) d
     else .seq (trace Ev.dispatch u 0 (workId d i.tile) d) (trace Ev.start u 0 (workId d i.tile) d))

/-- One hand-out to a group (R363, R364); descriptors ahead that wait for scratch are marked. The record of a wait that ends has UNIT
0xFF and comes last (R398). -/
def handOut (g : Group) : Prog :=
  .look fun s =>
    let waiting := (s.units.dsp.ready.filterMap fun i => s.units.dsp.desc? i).filter fun d =>
      d.stallAt.isNone && scratchBlocked s d && (takers s g).any fun u => s.eligible d d.typ u.1
    .seq (Prog.each waiting scratchStall)
      (match (takers s g).findSome? fun u => (pickFor s u.1).map fun p => (u, p) with
        | none => .skip
        | some (u, i, queued) =>
          match s.units.dsp.desc? i.desc with
          | none => .skip
          | some d => Prog.all [takeItem i queued d, enterSlot u.1 u.2 i d, Prog.when queued (stallEnd d)])

/-- TILE_HAND_OUT (R364). -/
def execTileHandOut (g : Group) (s : State) : Host.Outcome State Fault Refusal := Prog.next (handOut g) s

/-- Add to the 64-bit count of operand bytes. -/
def addRdBytes (n : Nat) : Prog :=
  .look fun s =>
    let v := (s.stored Reg.dspRdBytesLo).toNat + 2 ^ 32 * (s.stored Reg.dspRdBytesHi).toNat + n
    .seq (.reg Reg.dspRdBytesLo (BitVec.ofNat 32 v)) (.reg Reg.dspRdBytesHi (BitVec.ofNat 32 (v / 2 ^ 32)))

/-- A free number of operand bytes is counted: no rule states it (log entry 9). -/
def countReads : Prog := .seq (.look fun s => addRdBytes (Config.freeCount s.free)) .draw

/-- The highest levels since the last read (Table 9-6). -/
def noteLevel (q : Nat) : Prog :=
  .look fun s =>
    let a := Reg.dspQmax01 + 4 * (q / 2)
    let hi := if q % 2 = 1 then 24 else 8
    let lo := if q % 2 = 1 then 16 else 0
    recordRc a fun w => masked w (place (2 ^ (hi + 1 - lo) - 1) hi lo) (place (max (bits w hi lo) (s.units.dsp.level q)) hi lo)

/-- Enqueue a descriptor: it takes its number and a place in its queue (R351, R357, R358, R395). -/
def addDesc (d : Desc) : Prog :=
  .look fun s =>
    let x := { d with id := s.units.dsp.nextId }
    Prog.all [
      modDsp fun y => { y with descs := y.descs ++ [x], ready := y.ready ++ [x.id], nextId := y.nextId + 1 },
      noteLevel d.prio, trace Ev.enq 0xFF 0 (x.id % 65536 * 65536 + d.tiles) x]

/-- The descriptor that an engine holds for a queue, with its entry (R360). -/
def State.heldBy (s : State) (e : Engine) (q : Nat) : Option (Run × Desc) :=
  (s.runOf e).bind fun r => match r.block with
    | .held d => if d.prio = q then some (r, d) else none
    | _ => none

/-- A held descriptor enters its queue if an entry is free, and its engine goes on (R360). -/
def admitHeld (e : Engine) (q : Nat) : Prog :=
  .look fun s => match s.heldBy e q with
    | none => .skip
    | some (r, d) => Prog.when (decide (s.units.dsp.level q < 256)) (.seq (addDesc d) (advance e r d.words.length))

/-- The engines whose descriptors enter a queue before one's in the same fabric cycle (R358). -/
def enginesBefore : Engine → List Engine
  | .me0 => []
  | .me1 => [.me0]
  | _ => [.me0, .me1]

/-- What earlier engines hold for a queue enters it first (R358). -/
def admitBefore (e : Engine) (q : Nat) : Prog := Prog.each (enginesBefore e) fun x => admitHeld x q

/-- An engine issues a descriptor: it is enqueued, or held when its queue is full (R360). -/
def enqueue (e : Engine) (r : Run) (nw : Nat) (d : Desc) : Prog :=
  .seq (admitBefore e d.prio) (.look fun s =>
    if 256 ≤ s.units.dsp.level d.prio then Prog.all [
      modRun e fun x => { x with block := .held d }, setFlag .qfull, trace Ev.backpressure 0xFF 0 0 d]
    else .seq (addDesc d) (advance e r nw))

/-- HELD_ENQUEUE (R358, R360): the held descriptor finds a free entry. -/
def execHeldEnqueue (e : Engine) (s : State) : Host.Outcome State Fault Refusal :=
  Prog.next (match s.runOf e with
    | some r =>
      match r.block with
      | .held d => .seq (admitBefore e d.prio) (admitHeld e d.prio)
      | _ => .skip
    | none => .skip) s

/-- What a completed item computes (Table 9-1). -/
def itemEffect (d : Desc) (i : Item) (base : Nat) : Prog :=
  if i.typ ≤ 1 then (if d.kSplit ≤ 1 then wholeTile d i.tile else chunkTile d base i.tile)
  else if i.typ = 2 then prunePart d base i.tile
  else if i.typ = 3 then scorePart d base i.tile
  else if i.typ = 4 then softmaxPart d base i.tile
  else if i.typ = 5 then pvPart d base i.tile
  else if i.typ = 6 then routeTile d i.tile
  else if i.typ = 7 then quantTile d i.tile
  else if i.typ = 8 then rotateTile d i.tile
  else if i.typ = 9 then vecopTile d i.tile
  else reduceTile d base i.tile

/-- The scratch block of an item. -/
def itemBlock (d : Desc) (i : Item) : Nat := if i.typ ≤ 1 then i.tile / max 1 d.kSplit else i.tile

/-- Free a scratch block. -/
def freeBlock (id block : Nat) : Prog :=
  modDsp fun x => { x with scratch := x.scratch.filter fun b => !(b.desc == id && b.block == block) }

/-- One work item of a descriptor's command is complete; the last one ends the descriptor (R371). -/
def countDown (d : Desc) : Prog :=
  .seq (modDesc d.id fun x => { x with left := x.left - 1 })
    (Prog.when (decide (d.left ≤ 1))
      (.seq (modDsp fun x => { x with descs := x.descs.filter fun y => y.id != d.id })
        (Prog.when (d.typ == 6) (routeShapes d.words d.extent))))

/-- Put a follow-on item into the continuation list (R361, R375, R493). -/
def continueWith (i : Item) : Prog := modDsp fun x => { x with conts := x.conts ++ [i] }

/-- What follows from an item's completion in its command (R371, R375, R493, R496). -/
def followOn (d : Desc) (i : Item) : Prog :=
  let first := Prog.when (i.typ == d.typ) (modDesc d.id fun x => { x with doneTiles := x.doneTiles + 1 })
  if i.typ ≤ 1 ∧ 1 < d.kSplit then
    Prog.all [first,
      modDsp fun x => { x with scratch := x.scratch.map fun b =>
        if b.desc == d.id && b.block == itemBlock d i then { b with chunks := b.chunks + 1 } else b },
      .look fun s => Prog.when (s.units.dsp.scratch.any fun b => b.desc == d.id && b.block == itemBlock d i && b.chunks == d.kSplit)
        (continueWith { desc := d.id, tile := itemBlock d i, typ := 10 })]
  else if 2 ≤ i.typ ∧ i.typ ≤ 4 then .seq first (continueWith { i with typ := i.typ + 1 })
  else if i.typ = 5 ∨ i.typ = 10 then .seq (freeBlock d.id i.tile) (countDown d)
  else .seq first (countDown d)

/-- The unit's prefetch tile becomes active (R368). -/
def promote (u : Nat) : Prog :=
  .look fun s =>
    let x := s.units.dsp
    let p := (x.prefetch.find? fun y => y.1 == u).map fun y => y.2
    .seq (modDsp fun x => { x with
        active := x.active.filter (fun y => y.1 != u) ++ (p.toList.map fun i => (u, i))
        prefetch := x.prefetch.filter fun y => y.1 != u })
      (match p.bind fun i => (x.desc? i.desc).map fun d => (i, d) with
        | none => .skip
        | some (i, d) => trace Ev.start u 0 (workId d i.tile) d)

/-- A unit's active item completes (R371). -/
def completeTile (u : Nat) (i : Item) (d : Desc) : Prog :=
  .look fun s =>
    let base := ((s.units.dsp.scratch.find? fun b => b.desc == d.id && b.block == itemBlock d i).map fun b => b.addr).getD 0
    Prog.all [
      itemEffect d i base, countReads, addSat Reg.dspDoneCnt 31 0 1, trace Ev.done u 0 (workId d i.tile) d, promote u, followOn d i]

/-- TILE_COMPLETE (R371). -/
def execTileComplete (unit : Nat) (s : State) : Host.Outcome State Fault Refusal :=
  Prog.next (match (s.units.dsp.active.find? fun x => x.1 == unit).bind fun x => (s.units.dsp.desc? x.2.desc).map fun d => (x.2, d) with
    | none => .skip
    | some (i, d) => completeTile unit i d) s

/-- STALL (R372): one record for the wait of a unit's active item. -/
def execStall (unit waitUs : Nat) (s : State) : Host.Outcome State Fault Refusal :=
  Prog.next (match (s.units.dsp.active.find? fun x => x.1 == unit).bind fun x => (s.units.dsp.desc? x.2.desc).map fun d => (x.2, d) with
    | none => .skip
    | some (i, d) => trace Ev.stall unit (min 255 waitUs) (workId d i.tile) d) s

/-- Cancel records of the slots: active ones carry INFO 2, prefetch ones INFO 1, in unit order (R387, R398). -/
def cancelSlots (x : Dsp) : List (Nat × Nat × Item) :=
  (List.range 72).flatMap fun u =>
    ((x.active.filter fun y => y.1 == u).map fun y => (u, 2, y.2)) ++ ((x.prefetch.filter fun y => y.1 == u).map fun y => (u, 1, y.2))

/-- Whether the Dispatcher holds any work. -/
def Dsp.holdsWork (x : Dsp) : Bool := !(x.ready.isEmpty && x.conts.isEmpty && x.active.isEmpty && x.prefetch.isEmpty)

/-- An abort cancels all work of the Dispatcher (R78, R387 to R389). -/
def cancelWork : Prog :=
  .look fun s =>
    let x := s.units.dsp
    let n := x.active.length + x.prefetch.length + x.ready.length + x.conts.length
    Prog.when x.holdsWork (Prog.all [
      Prog.each (cancelSlots x) fun y => (match x.desc? y.2.2.desc with
        | some d => trace Ev.cancel y.1 y.2.1 (workId d y.2.2.tile) d
        | none => .skip),
      Prog.each (x.ready.filterMap fun i => x.desc? i) fun d => .seq (stallEnd d) (trace Ev.cancel 0xFF 0 (workId d d.next) d),
      Prog.each x.conts fun i => (match x.desc? i.desc with
        | some d => trace Ev.cancel 0xFF 0 (workId d i.tile) d
        | none => .skip),
      addSat Reg.dspCancelCnt 31 0 n, setFlag .cancelled,
      Prog.each x.prefetch fun _ => .seq (.look fun t => .seq (addRdBytes (Config.freeCount t.free)) (addSat Reg.dspPfWaste 31 0 (Config.freeCount t.free))) .draw,
      modDsp fun y => { y with descs := [], ready := [], conts := [], active := [], prefetch := [], scratch := [] }])

end Sys2Proof.Machine
end

