-- ==== Sys2Proof/Machine/Engines.lean ====
section
/-! DEFINITION. The engine commands of ME0, ME1 and VE, and the control commands of every engine (chapter 8). -/

namespace Sys2Proof.Machine

/-- NOP (R330): issues with no effect. -/
def execNop (e : Engine) (s : State) : Host.Outcome State Fault Refusal :=
  Prog.next (issue e 0x00 fun r ws => advance e r ws.length) s

/-- SYNC (R333): the list goes on when the counter has reached VALUE, and blocks otherwise. -/
def execSync (e : Engine) (s : State) : Host.Outcome State Fault Refusal :=
  Prog.next (issue e 0x02 fun r ws =>
    let fc := bits (wordAt ws 1) 5 0
    let value := bits (wordAt ws 1) 31 16
    if value ≤ s.fence fc then advance e r ws.length
    else modRun e fun x => { x with block := .sync fc value (bits (wordAt ws 2) 19 0) }) s

/-- SYNC_RELEASE (R333). -/
def execSyncRelease (e : Engine) (s : State) : Host.Outcome State Fault Refusal :=
  Prog.next (match s.runOf e with
    | some r =>
      match r.block with
      | .sync fc value _ => Prog.when (decide (value ≤ s.fence fc)) (advance e r 3)
      | _ => .skip
    | none => .skip) s

/-- SIGNAL (R319, R332): adds AMOUNT once earlier work items have completed. -/
def execSignal (e : Engine) (s : State) : Host.Outcome State Fault Refusal :=
  Prog.next (issue e 0x03 fun r ws =>
    .seq (addFence (bits (wordAt ws 1) 5 0) (bits (wordAt ws 1) 31 16)) (advance e r ws.length)) s

/-- Whether WAIT_SLOT on an entry is satisfied (R335). -/
def slotReached (t : Tick) (completed : Bool) (entry : Nat) : Bool :=
  match t.entries[entry]? with
  | some .started => !completed
  | some .done => true
  | _ => false

/-- WAIT_SLOT (R335). -/
def execWaitSlot (e : Engine) (s : State) : Host.Outcome State Fault Refusal :=
  Prog.next (issue e 0x04 fun r ws =>
    let cond := bit (wordAt ws 1) 31
    let entry := bits (wordAt ws 1) 8 0
    if slotReached s.tick cond entry then advance e r ws.length
    else modRun e fun x => { x with block := .waitSlot cond entry }) s

/-- WAIT_SLOT_RELEASE (R335). -/
def execWaitSlotRelease (e : Engine) (s : State) : Host.Outcome State Fault Refusal :=
  Prog.next (match s.runOf e with
    | some r =>
      match r.block with
      | .waitSlot cond entry => Prog.when (slotReached s.tick cond entry) (advance e r 2)
      | _ => .skip
    | none => .skip) s

/-- SHAPE_SET (R319, R337). -/
def execShapeSet (e : Engine) (s : State) : Host.Outcome State Fault Refusal :=
  Prog.next (issue e 0x05 fun r ws =>
    .seq (writeShape (wordAt ws 1).toNat (bits (wordAt ws 2) 15 0)) (advance e r ws.length)) s

/-- CORES of a command's descriptors: those of its ME field, else of the slot's engines (R315, R317, Table 9-1). -/
def coresOf (e : Engine) (r : Run) (ws : List Word) : Nat :=
  let me := hdrMe (wordAt ws 0)
  if me = 1 ∨ me = 2 then me
  else if r.both then 3
  else
    match e with
    | .me0 => 1
    | .me1 => 2
    | _ => 3

/-- A descriptor of a command (Table 9-1); a PRUNE part runs on any vector unit (R493). -/
def mkDesc (e : Engine) (r : Run) (ws : List Word) (typ tiles extent : Nat) : Desc :=
  { id := 0, tiled := true, src := srcCode e r, vector := !matrixType typ, prio := hdrPrio (wordAt ws 0),
    cores := if typ = 2 then 3 else coresOf e r ws,
    typ := typ, tiles := tiles, cmdId := hdrId (wordAt ws 0), cmdAddr := r.at, entry := r.entry, extent := extent, keys := 0,
    tileM := tiles, tileN := 1, kSplit := 1, kChunk := 0, meCores := coresOf e r ws, next := 0, doneTiles := 0, left := tiles, stallAt := none,
    words := ws }

/-- K_CHUNK of a matrix command (R353). -/
def chunkLen (ws : List Word) : Nat := ceilDiv (ceilDiv (redLen ws) (max 1 (bits (qctrl ws) 3 0))) 32 * 32

/-- Effective KSPLIT of a matrix command (R353). -/
def splitWays (ws : List Word) : Nat := ceilDiv (redLen ws) (chunkLen ws)

/-- Tiles along the rows and columns of an extent (R352). -/
def tileCounts (ws : List Word) (extent : Nat) : Nat × Nat :=
  (ceilDiv extent (itemShape ws).1, ceilDiv (trefAt ws 5).cols (itemShape ws).2)

/-- Output rows of a MATMUL or CONV: the extent of A, or of Y for a CONV (R338, R352; log entry 18). -/
def matExtentRef (ws : List Word) : Tref := if isConv ws then trefAt ws 9 else trefAt ws 1

/-- The TREFs whose shape word a MATMUL or CONV reads: that of its rows, and W (R338). -/
def matRefs (ws : List Word) : List Tref := [matExtentRef ws, trefAt ws 5]

/-- Extent of a MATMUL or CONV. Where W alone is dynamic, its shape word tells whether there is work, and the reduction keeps its
declared length (R352). DESIGN CHOICE, log entry 107. -/
def matExtent (s : State) (ws : List Word) : Nat :=
  let a := matExtentRef ws
  if a.dyn || decide (commandExtent s (matRefs ws) ≠ 0) && (trefAt ws 5).dyn then commandExtent s [a]
  else commandExtent s (matRefs ws)

/-- A MATMUL or CONV issues its tile list (R341, R352). -/
def issueMatrix (e : Engine) (r : Run) (ws : List Word) : Prog :=
  .look fun s =>
    let ext := matExtent s ws
    let n := tileCounts ws ext
    let ks := splitWays ws
    let blocks := n.1 * n.2
    let d := { mkDesc e r ws (if isConv ws then 1 else 0) (blocks * ks) ext with
      tileM := n.1, tileN := n.2, kSplit := ks, kChunk := chunkLen ws, left := blocks }
    .seq (extentFlags s (matRefs ws)) (if ext = 0 then advance e r ws.length else enqueue e r ws.length d)

/-- MATMUL (R352). -/
def execMatmul (e : Engine) (s : State) : Host.Outcome State Fault Refusal := Prog.next (issueTensor e 0x10 (issueMatrix e)) s

/-- CONV (R326, R352). -/
def execConv (e : Engine) (s : State) : Host.Outcome State Fault Refusal := Prog.next (issueTensor e 0x11 (issueMatrix e)) s

/-- An ATTEND issues the first part of its blocks (R341, R492, R502). -/
def issueAttend (e : Engine) (r : Run) (ws : List Word) : Prog :=
  .look fun s =>
    let qs := [trefAt ws 1, trefAt ws 13]
    let ks := [trefAt ws 5, trefAt ws 9]
    let ext := commandExtent s qs
    let keys := commandExtent s ks
    let tiles := (heads ws).1 * ceilDiv ext 32
    let d := { mkDesc e r ws (if prunerRuns s ws then 2 else 3) tiles ext with keys := keys }
    Prog.all [extentFlags s qs, extentFlags s ks, if ext = 0 ∨ keys = 0 then advance e r ws.length else enqueue e r ws.length d]

/-- ATTEND (R492). -/
def execAttend (e : Engine) (s : State) : Host.Outcome State Fault Refusal := Prog.next (issueTensor e 0x12 (issueAttend e)) s

/-- A vector command issues its tile list of 64 rows per tile (R341, R355). -/
def issueVector (typ : Nat) (ts : List Nat) (r : Run) (ws : List Word) : Prog :=
  .look fun s =>
    let refs := ts.map (trefAt ws)
    let ext := commandExtent s refs
    .seq (extentFlags s refs)
      (if ext = 0 then .seq (Prog.when (typ == 6) (routeShapes ws 0)) (advance .ve r ws.length)
       else enqueue .ve r ws.length (mkDesc .ve r ws typ (ceilDiv ext 64) ext))

/-- ROUTE (R443). -/
def execRoute (s : State) : Host.Outcome State Fault Refusal := Prog.next (issueTensor .ve 0x20 (issueVector 6 [1])) s

/-- QUANT (R430). -/
def execQuant (s : State) : Host.Outcome State Fault Refusal := Prog.next (issueTensor .ve 0x30 (issueVector 7 [1, 5])) s

/-- ROTATE (R434). -/
def execRotate (s : State) : Host.Outcome State Fault Refusal := Prog.next (issueTensor .ve 0x31 (issueVector 8 [1, 5])) s

/-- VECOP (R328). -/
def execVecop (s : State) : Host.Outcome State Fault Refusal := Prog.next (issueTensor .ve 0x32 (issueVector 9 [1, 5, 9])) s

end Sys2Proof.Machine
end

