-- ==== Sys2Proof/Machine/Map.lean ====
section
/-! DEFINITION. The expert map of an image (Table 11-2), wire tensors and bins (chapter 11). -/

namespace Sys2Proof.Machine

/-- An expert entry of the map. -/
structure Expert where
  node  : Nat
  slot  : Nat
  cap   : Nat
  bin   : Nat
  slots : Nat
  shape : Nat
  deriving DecidableEq, Repr

/-- A layer of the map, with its entries by expert number. -/
structure Layer where
  layer   : Nat
  sorted  : Bool
  top2    : Bool
  xfmt    : Nat
  w       : Nat
  srcmask : Word
  experts : List Expert
  deriving DecidableEq, Repr

/-- The expert entry at an address. -/
def expertAt (s : State) (a : Nat) : Expert :=
  { node := bits (s.rd32 a) 29 24, slot := bits (s.rd32 a) 19 16, cap := bits (s.rd32 a) 15 0,
    bin := (s.rd32 (a + 4)).toNat, slots := bits (s.rd32 (a + 8)) 15 0, shape := (s.rd32 (a + 12)).toNat }

/-- The layer whose header is at an address. -/
def layerAt (s : State) (a : Nat) : Layer :=
  let h := s.rd32 a
  { layer := bits h 31 24, sorted := bit h 20, top2 := bit h 16, xfmt := bits (s.rd32 (a + 4)) 19 16, w := bits (s.rd32 (a + 4)) 15 0,
    srcmask := s.rd32 (a + 8), experts := (List.range (bits h 8 0)).map fun e => expertAt s (a + 16 + 16 * e) }

/-- Addresses of n layer headers from one on: each follows the entries of the one before (R451). -/
def layerAddrs (s : State) : Nat → Nat → List Nat
  | 0, _ => []
  | n + 1, a => a :: layerAddrs s n (a + 16 + 16 * bits (s.rd32 a) 8 0)

/-- The layers of a map table at an address. -/
def mapLayers (s : State) (a : Nat) : List Layer := (layerAddrs s (bits (s.rd32 a) 7 0) (a + 16)).map (layerAt s)

/-- A layer of the loaded image's map. -/
def State.layer? (s : State) (n : Nat) : Option Layer :=
  match s.eng.image with
  | none => none
  | some im => if im.mapLen = 0 then none else (mapLayers s (im.addr + im.mapOff)).find? fun l => l.layer == n

/-- Ranks of a layer. -/
def Layer.ranks (l : Layer) : Nat := if l.top2 then 2 else 1

/-- Tokens of a full pair (R458). -/
def Layer.perPair (l : Layer) : Nat := min 64 (4096 / l.w)

/-- Node of an expert; 0 for a number that the map does not hold. -/
def Layer.nodeOf (l : Layer) (e : Nat) : Nat := (l.experts[e]?.map fun x => x.node).getD 0

/-- Destinations of a layer in ascending address (R453). -/
def Layer.dests (l : Layer) : List Nat := ((List.range 32).map fun i => i + 1).filter fun a => l.experts.any fun x => x.node == a

/-- Sources of a layer in ascending address (R453). -/
def Layer.sources (l : Layer) : List Nat := ((List.range 32).map fun i => i + 1).filter fun a => bit l.srcmask (a - 1)

/-- The resident expert of a slot of a node. -/
def Layer.resident (l : Layer) (node slot : Nat) : Option Expert := l.experts.find? fun x => x.node == node && x.slot == slot

/-- Round up to a multiple of 16. -/
def up16 (n : Nat) : Nat := ceilDiv n 16 * 16

/-- Offset of row j's scale in a wire tensor of R rows (R454). -/
def wireScale (rows w j : Nat) : Nat := up16 (rows * w) + j

/-- Offset of row j's tag in a wire tensor with tags behind its scales (R455, R467). -/
def wireTag (rows w j : Nat) : Nat := up16 (up16 (rows * w) + rows) + 4 * j

/-- A token in transit: its tag, its scale byte and its row. -/
structure Token where
  tag   : Word
  scale : Byte
  row   : List Byte
  deriving DecidableEq, Repr

/-- A token of a wire tensor of R rows at an address. -/
def tokenAt (s : State) (a rows w j : Nat) (tag : Word) : Token :=
  { tag := tag, scale := s.rd8 (a + wireScale rows w j), row := s.rdBytes (a + j * w) w }

/-- Put a token into row j of a wire tensor of R rows with tags (R455, R467). -/
def putToken (a rows w j : Nat) (t : Token) : Prog :=
  Prog.all [unitStore (a + j * w) (t.row.take w), unitStore (a + wireScale rows w j) [t.scale],
    unitStore (a + wireTag rows w j) (wordBytes t.tag)]

/-- Fields of a token tag (Table 11-1). -/
def tagSrc (t : Word) : Nat := bits t 31 26
def tagToken (t : Word) : Nat := bits t 25 14
def tagRank (t : Word) : Nat := bits t 13 13
def tagMark (t : Word) : Nat := bits t 12 8
def tagExpert (t : Word) : Nat := bits t 7 0

end Sys2Proof.Machine
end

