-- ==== Sys2Proof/Machine/Load.lean ====
section
/-! DEFINITION. The checks of a schedule image (Tables 8-10 and 8-11): header, grade table and expert map, slot entries, and every
command of every list. -/

namespace Sys2Proof.Machine

/-- Whether n bytes lie wholly within shared SRAM or wholly within DRAM (R324). -/
def inSramDram (a n : Nat) : Bool := inOneRange a n && (regionOf a == some .shared || regionOf a == some .dram)

/-- Whether n bytes lie within shared SRAM. -/
def inShared (a n : Nat) : Bool := inOneRange a n && regionOf a == some .shared

/-- The image whose header lies at an address (Table 8-10). -/
def imageAt (s : State) (addr size : Nat) : Image :=
  let off := bits (s.rd32 (addr + 28)) 31 0
  let slot := fun i : Nat => addr + off + 16 * i
  { addr := addr, size := size, ng := bits (s.rd32 (addr + 24)) 15 8, pMin := (s.rd32 (addr + 20)).toNat,
    minCores := bits (s.rd32 (addr + 24)) 7 0,
    slots := (List.range (bits (s.rd32 (addr + 24)) 31 16)).map fun i =>
      { eng := bits (s.rd32 (slot i)) 22 20, start := bits (s.rd32 (slot i)) 19 0, reserve := bits (s.rd32 (slot i + 4)) 19 0,
        list := (s.rd32 (slot i + 8)).toNat, len := bits (s.rd32 (slot i + 12)) 15 0 },
    gradeOff := (s.rd32 (addr + 48)).toNat, gradeLen := (s.rd32 (addr + 52)).toNat,
    mapOff := (s.rd32 (addr + 56)).toNat, mapLen := (s.rd32 (addr + 60)).toNat }

/-- Estimate of grade g in an image's header (Table 8-10). -/
def imageEst (s : State) (im : Image) (g : Nat) : Nat := (s.rd32 (im.addr + 32 + 4 * g)).toNat

/-- Whether n bytes at an address lie inside an image. -/
def Image.holds (im : Image) (a n : Nat) : Bool := decide (im.addr ≤ a) && decide (a + n ≤ im.addr + im.size)

/-- Whether a table of the image is absent, or 16-byte aligned and inside the image (R343). -/
def tableOk (im : Image) (off len : Nat) : Bool :=
  (off == 0 && len == 0) || (decide (off ≠ 0) && decide (len ≠ 0) && decide (off % 16 = 0) && decide (off + len ≤ im.size))

/-- Estimates: none above that of the grade below, none too wide, and 0 for undeclared grades (R287). -/
def estimatesOk (s : State) (im : Image) : Bool :=
  (List.range 4).all fun g =>
    if g < im.ng then
      decide (imageEst s im g ≤ 0xFFFFFF) && (g == 0 || decide (imageEst s im g ≤ imageEst s im (g - 1)))
    else imageEst s im g == 0

/-- Address of layer entry n of the grade table (Table 12-2). -/
def gradeEntry (im : Image) (n : Nat) : Nat := im.addr + im.gradeOff + 16 + 48 * n

/-- Prunable layers of an image (R510). -/
def Image.npl (s : State) (im : Image) : Nat := if im.gradeLen = 0 then 0 else bits (s.rd32 (im.addr + im.gradeOff)) 7 0

/-- The grade table (R510, R511). -/
def gradeTableOk (s : State) (im : Image) : Bool :=
  if im.gradeLen = 0 then true
  else
    let a := im.addr + im.gradeOff
    let n := im.npl s
    let sh := fun v : Nat => decide (-16 ≤ signed 8 v) && decide (signed 8 v ≤ 15)
    decide (im.gradeLen = 16 + 48 * n) && decide (1 ≤ n) && decide (n ≤ 64) && bits (s.rd32 a) 31 8 == 0 &&
      (s.rdBytes (a + 4) 12).all (fun b => b == 0) &&
      (List.range n).all fun l =>
        let e := gradeEntry im l
        sh (bits (s.rd32 e) 15 8) && sh (bits (s.rd32 e) 7 0) && bits (s.rd32 e) 31 16 == 0 &&
          (s.rdBytes (e + 4) 12).all (fun b => b == 0) &&
          (List.range im.ng).all (fun g => bits (s.rd32 (e + 16 + 8 * g)) 31 16 == 0) &&
          bits (s.rd32 (e + 16)) 15 0 == 0xFFFF && s.rd32 (e + 20) == 0x80000000

/-- Words of a layer header and of an expert entry with reserved bits or fields out of range (Table 11-2, R452). -/
def layerHeaderOk (s : State) (a : Nat) : Bool :=
  let h := s.rd32 a
  let x := s.rd32 (a + 4)
  bits h 23 21 == 0 && bits h 19 17 == 0 && bits h 15 9 == 0 && decide (1 ≤ bits h 8 0) && decide (bits h 8 0 ≤ 256) &&
    bits x 31 20 == 0 && (bits x 19 16 == 1 || bits x 19 16 == 5) && decide (bits x 15 0 % 2 = 0) && decide (2 ≤ bits x 15 0) &&
    decide (bits x 15 0 ≤ 4096) && s.rd32 (a + 12) == 0

/-- One expert entry (R452). -/
def expertOk (s : State) (l : Layer) (a : Nat) : Bool :=
  let w := s.rd32 a
  let e := expertAt s a
  bits w 31 30 == 0 && bits w 23 20 == 0 && decide (1 ≤ e.node) && decide (e.node ≤ 32) && decide (1 ≤ e.cap) &&
    decide (e.bin % 16 = 0) && bits (s.rd32 (a + 8)) 31 16 == 0 && decide (1 ≤ e.slots) &&
    (if l.sorted then decide (e.cap ≤ e.slots) && e.shape == 0 else decide (e.shape % 4 = 0)) &&
    (decide (e.node ≠ s.link.addr.toNat) ||
      (inSramDram e.bin (wireTag e.slots l.w e.slots) && (l.sorted || inSramDram e.shape 4)))

/-- One layer with its entries (R452). -/
def layerOk (s : State) (a : Nat) : Bool :=
  let l := layerAt s a
  let n := l.experts.length
  layerHeaderOk s a && (List.range n).all (fun e => expertOk s l (a + 16 + 16 * e)) &&
    ((List.range 32).all fun i => decide ((l.experts.filter fun e => e.node == i + 1).length ≤ 16)) &&
    ((List.range n).all fun i => (List.range i).all fun j =>
      match l.experts[i]?, l.experts[j]? with
      | some x, some y => !(x.node == y.node && x.slot == y.slot)
      | _, _ => true)

/-- Whether LAYER strictly ascends (R451). -/
def ascending : List Nat → Bool
  | a :: b :: t => decide (a < b) && ascending (b :: t)
  | _ => true

/-- The expert map (R451, R452). -/
def mapOk (s : State) (im : Image) : Bool :=
  if im.mapLen = 0 then true
  else
    let a := im.addr + im.mapOff
    let nl := bits (s.rd32 a) 7 0
    let heads := layerAddrs s nl (a + 16)
    decide (16 ≤ im.mapLen) && decide (1 ≤ nl) && decide (nl ≤ 32) && bits (s.rd32 a) 31 8 == 0 &&
      (s.rdBytes (a + 4) 12).all (fun b => b == 0) &&
      heads.all (fun h => decide (h + 16 + 16 * bits (s.rd32 h) 8 0 ≤ a + im.mapLen) && layerOk s h) &&
      ascending (heads.map fun h => bits (s.rd32 h) 31 24)

/-- Step 2 of Table 8-11. -/
def headerOk (s : State) (addr size : Nat) : Bool :=
  let im := imageAt s addr size
  let slotOff := (s.rd32 (addr + 28)).toNat
  decide (addr % 16 = 0) && decide (size % 16 = 0) && decide (64 ≤ size) && inSramDram addr size &&
    s.rd32 addr == 0x4D494B53 && s.rd16 (addr + 4) == 1 && s.rd16 (addr + 6) == 64 && (s.rd32 (addr + 12)).toNat == size &&
    s.rd32 (addr + 16) == crc32 (s.rdBytes (addr + 20) (size - 20)) &&
    decide (1000 ≤ im.pMin) && decide (im.pMin ≤ 1000000) && decide (1 ≤ im.minCores) && decide (im.minCores ≤ 64) &&
    decide (1 ≤ im.ng) && decide (im.ng ≤ 4) && decide (1 ≤ im.slots.length) && decide (im.slots.length ≤ 512) &&
    decide (slotOff % 16 = 0) && decide (slotOff + 16 * im.slots.length ≤ size) &&
    tableOk im im.gradeOff im.gradeLen && tableOk im im.mapOff im.mapLen && estimatesOk s im && mapOk s im && gradeTableOk s im

/-- Whether the node has the cores that an image asks for (R121, R386). -/
def coresSuffice (s : State) (minCores : Nat) : Bool :=
  let half := fun b => ((List.range 32).filter fun n => s.pwr.coreOk.getLsbD (b + n)).length
  decide (minCores ≤ s.coreCount) && (!s.pwr.bistDone ||
    (decide (ceilDiv minCores 2 ≤ half 0) && decide (ceilDiv minCores 2 ≤ half 32)))

/-- Whether two engine codes share an engine (Table 2-2). -/
def shareEngine (a b : Nat) : Bool := a == b || (a == 2 && decide (b ≤ 1)) || (b == 2 && decide (a ≤ 1))

/-- Slot entry n under R57. The order and the overlap are judged against the entries before it. -/
def slotOk (s : State) (im : Image) (n : Nat) : Bool :=
  match im.slots[n]? with
  | none => true
  | some x =>
    let a := im.addr + (s.rd32 (im.addr + 28)).toNat + 16 * n
    bits (s.rd32 a) 31 23 == 0 && bits (s.rd32 (a + 4)) 31 20 == 0 && bits (s.rd32 (a + 12)) 31 16 == 0 && decide (x.eng ≤ 5) &&
      decide (4 ≤ x.start) && decide (1 ≤ x.reserve) && decide (x.start + x.reserve ≤ im.pMin - guardOf im.pMin) &&
      (im.slots.take n).all (fun y => decide (y.start ≤ x.start) &&
        !(shareEngine x.eng y.eng && decide (x.start < y.start + y.reserve) && decide (y.start < x.start + x.reserve))) &&
      decide (x.list % 16 = 0) && decide (x.len ≠ 0) && im.holds x.list (4 * x.len)

/-- The commands of a list: whole commands only, each of at least one word (R316). -/
def splitList (s : State) (a : Nat) : Nat → Nat → Option (List (List Word))
  | 0, len => if len = 0 then some [] else none
  | fuel + 1, len =>
    if len = 0 then some []
    else
      let n := hdrNw (s.rd32 a)
      if n = 0 ∨ len < n then none
      else (splitList s (a + 4 * n) fuel (len - n)).map fun t => (List.range n).map (fun i => s.rd32 (a + 4 * i)) :: t

/-- The commands of a slot entry. -/
def Slot.commands (s : State) (x : Slot) : Option (List (List Word)) := splitList s x.list x.len x.len

/-- NW of an opcode, and the ENG codes that accept it (Table 8-1). -/
def opcodeRow (opc : Nat) : Option (Nat × List Nat) :=
  if opc = 0x00 then some (1, [0, 1, 2, 3, 4, 5])
  else if opc = 0x02 then some (3, [0, 1, 2, 3, 4, 5])
  else if opc = 0x03 then some (2, [0, 1, 2, 3, 4, 5])
  else if opc = 0x04 then some (2, [0, 1, 2, 3, 4, 5])
  else if opc = 0x05 then some (3, [0, 1, 2, 3, 4, 5])
  else if opc = 0x10 then some (19, [0, 1, 2])
  else if opc = 0x11 then some (21, [0, 1, 2])
  else if opc = 0x12 then some (22, [0, 1, 2])
  else if opc = 0x20 then some (9, [3])
  else if opc = 0x30 then some (13, [3])
  else if opc = 0x31 then some (9, [3])
  else if opc = 0x32 then some (15, [3])
  else if opc = 0x21 then some (8, [4])
  else if opc = 0x22 then some (9, [4])
  else if opc = 0x23 then some (6, [4])
  else if opc = 0x24 then some (15, [4])
  else if opc = 0x40 then some (6, [5])
  else none

/-- Whether a command issues matrix work items. -/
def isMatrixOp (opc : Nat) : Bool := opc == 0x10 || opc == 0x11 || opc == 0x12

/-- Whether a command issues work items (Table 8-2). -/
def isItemOp (opc : Nat) : Bool := isMatrixOp opc || opc == 0x20 || opc == 0x30 || opc == 0x31 || opc == 0x32

/-- The header word: opcode and NW, PRIO, ME (R314, R316, R317, Table 8-2). -/
def commandHeaderOk (eng : Nat) (ws : List Word) : Bool :=
  let h := wordAt ws 0
  match opcodeRow (hdrOpc h) with
  | none => false
  | some (nw, engs) =>
    hdrNw h == nw && decide (eng ∈ engs) && (isItemOp (hdrOpc h) || hdrPrio h == 0) &&
      (hdrMe h == 0 || (decide (hdrMe h ≤ 2) && eng == 2 && isMatrixOp (hdrOpc h)))

/-- A tensor reference (R323, R324). -/
def trefOk (ws : List Word) (i : Nat) : Bool :=
  let t := trefAt ws i
  decide (t.addr % 16 = 0) && decide (t.fmt ≤ 0xB) && bits (wordAt ws (i + 1)) 26 20 == 0 && decide (1 ≤ t.rows) && decide (1 ≤ t.cols) &&
    (t.stride == 0 || decide (t.cols * fmtBits t.fmt ≤ t.stride * 128)) && inSramDram t.addr (t.span t.rows) &&
    (if t.dyn then decide (t.shape % 4 = 0) && inShared t.shape 4 else t.shape == 0)

/-- Whether the dynamic ones among tensors name one shape word (R338). -/
def oneShape (ts : List Tref) : Bool :=
  match ts.find? fun t => t.dyn with
  | none => true
  | some x => ts.all fun t => !t.dyn || t.shape == x.shape

/-- A codebook block for a number of channels, its entries in one of some formats (R427, R428). -/
def codebookOk (s : State) (a channels count : Nat) (efmts : List Nat) (grouped : Bool) (within : Nat → Bool) : Bool :=
  let h := s.rd32 a
  let size := if bits h 31 28 = Fmt.bf16 then 2 else 1
  decide (a % 16 = 0) && decide (bits h 31 28 ∈ efmts) && bits h 26 16 == 0 && (!grouped || bit h 27) &&
    bits h 15 0 == (if bit h 27 then ceilDiv channels 32 else 1) &&
    within (16 + bits h 15 0 * (ceilDiv (count * size) 16 * 16))

/-- Entries of a codebook format. -/
def codeEntries (fmt : Nat) : Nat := if fmt = Fmt.cb4 then 16 else 256

/-- Whether a pair of formats is one of the integer path (Table 8-6); codebooks are judged by their entries. -/
def integerPair (a w : Nat) : Bool :=
  ((a == Fmt.u8 || a == Fmt.i8) && (w == Fmt.i8 || isCb w)) || (a == Fmt.i4 && w == Fmt.i4)

/-- Whether a pair of formats is one of the float path (Table 8-6). -/
def floatPair (a w : Nat) : Bool :=
  ((a == Fmt.e4m3 || a == Fmt.e5m2) && (w == Fmt.e4m3 || w == Fmt.e5m2)) || (a == Fmt.bf16 && (w == Fmt.bf16 || isCb w))

/-- Output formats of the float path. -/
def floatOut (y : Nat) : Bool := y == Fmt.e4m3 || y == Fmt.e5m2 || y == Fmt.bf16 || y == Fmt.fp32

/-- Whether a zero point lies in the range of a format (R419). -/
def zeroInRange (fmt v : Nat) : Bool :=
  let z := signed 16 v
  if fmt = Fmt.u8 then decide (0 ≤ z) && decide (z ≤ 255)
  else if fmt = Fmt.i4 then decide (-8 ≤ z) && decide (z ≤ 7)
  else decide (-128 ≤ z) && decide (z ≤ 127)

/-- Bytes of the scale tensor of N channels with its column sums (R423). -/
def scaleBytes (sfmt n : Nat) (sums : Bool) : Nat :=
  let b := if sfmt = Fmt.bf16 then 2 * n else n
  if sums then ceilDiv b 16 * 16 + 4 * n else b

/-- Whether a scratch block fits the region, and the region is clear of the image (R376, R491). -/
def scratchOk (s : State) (im : Image) (block : Nat) : Bool :=
  let r := scratchRegion s
  decide (block ≤ r.2 - r.1) && !overlaps r.1 (r.2 - r.1) im.addr im.size

/-- The parts that MATMUL and CONV share: formats, scales, zero points, codebook, tiling (R327, R353, R356, R376, R419 to R428). -/
def matrixOk (s : State) (im : Image) (ws : List Word) : Bool :=
  let a := trefAt ws 1
  let w := trefAt ws 5
  let y := trefAt ws 9
  let q := qctrl ws
  let zpa := bits q 27 26
  let zpw := bits q 25 24
  let sfmt := bits q 31 28
  let intPath := integerPair a.fmt w.fmt
  let scale := (wordAt ws 13).toNat
  let cb := (wordAt ws 16).toNat
  let shape := itemShape ws
  let n := tileCounts ws y.rows
  let ks := splitWays ws
  trefOk ws 1 && trefOk ws 5 && trefOk ws 9 && oneShape [a, w, y] && a.dyn == y.dyn && (intPath || floatPair a.fmt w.fmt) &&
    (if intPath then y.fmt == Fmt.u8 || y.fmt == Fmt.i8 || y.fmt == Fmt.i16 || y.fmt == Fmt.i32 else floatOut y.fmt) &&
    bit q 23 == false && bits q 19 4 == 0 && decide (bits q 3 0 ≤ 8) && (isConv ws || !bit q 20) && decide (zpa ≤ 2) && decide (zpw ≤ 2) &&
    (intPath || (zpa == 0 && zpw == 0)) && (zpa == 0 || zeroInRange a.fmt (bits (wordAt ws 15) 31 16)) &&
    (zpw == 0 || (zeroInRange w.fmt (bits (wordAt ws 15) 15 0) && !isCb w.fmt)) && (decide (zpa ≠ 2) || decide (scale ≠ 0)) &&
    (sfmt == Fmt.bf16 || sfmt == Fmt.p2) &&
    (scale == 0 || (decide (scale % 16 = 0) && inSramDram scale (scaleBytes sfmt w.cols (zpa == 2)))) &&
    (if isCb w.fmt then codebookOk s cb w.cols (codeEntries w.fmt) [if intPath then Fmt.i8 else Fmt.bf16] false (im.holds cb) else cb == 0) &&
    decide (shape.1 % 32 = 0) && decide (32 ≤ shape.1) && decide (shape.1 ≤ 4096) && decide (shape.2 % 32 = 0) && decide (32 ≤ shape.2) &&
    decide (n.1 * n.2 * ks ≤ 65535) && (decide (ks ≤ 1) || scratchOk s im (shape.1 * shape.2 * 4 * ks))

/-- Output extent of a CONV along one axis, when the kernel fits (R326). -/
def convFits (n pad dil k : Nat) : Bool := decide (dil * (k - 1) + 1 ≤ n + 2 * pad)

/-- The shapes of MATMUL and CONV (R326, R746). -/
def matrixShapesOk (ws : List Word) : Bool :=
  let a := trefAt ws 1
  let w := trefAt ws 5
  let y := trefAt ws 9
  if isConv ws then
    let g := wordAt ws 19
    let h := bits (wordAt ws 18) 31 16
    let wd := bits (wordAt ws 18) 15 0
    let kh := bits g 31 28
    let kw := bits g 27 24
    let dw := bit (qctrl ws) 20
    decide (1 ≤ kh) && decide (1 ≤ kw) && decide (1 ≤ bits g 23 20) && decide (1 ≤ bits g 19 16) && decide (1 ≤ bits g 7 4) &&
      decide (1 ≤ bits g 3 0) && convFits h (bits g 15 12) (bits g 7 4) kh && convFits wd (bits g 11 8) (bits g 3 0) kw &&
      a.rows == h * wd && w.rows == (if dw then kh * kw else kh * kw * a.cols) && y.cols == w.cols && (!dw || w.cols == a.cols) &&
      y.rows == convOut h (bits g 15 12) (bits g 7 4) kh (bits g 23 20) * convOut wd (bits g 11 8) (bits g 3 0) kw (bits g 19 16)
  else a.cols == w.rows && y.cols == w.cols && y.rows == a.rows

/-- A codebook block of ATTEND (R489, R491). -/
def kvBookOk (s : State) (t : Tref) (word : Nat) : Bool :=
  let a := (s.rd32 word).toNat
  !isCb t.fmt || codebookOk s a t.cols (codeEntries t.fmt) [Fmt.bf16] true (inSramDram a)

/-- ATTEND (R487 to R491). -/
def attendOk (s : State) (im : Image) (ws : List Word) : Bool :=
  let q := trefAt ws 1
  let k := trefAt ws 5
  let v := trefAt ws 9
  let o := trefAt ws 13
  let nh := (heads ws).1
  let dh := (heads ws).2
  let layer := bits (wordAt ws 18) 31 24
  let pos := (wordAt ws 19).toNat
  let kv := (wordAt ws 21).toNat
  let books := isCb k.fmt || isCb v.fmt
  trefOk ws 1 && trefOk ws 5 && trefOk ws 9 && trefOk ws 13 && oneShape [q, o] && oneShape [k, v] &&
    bits (wordAt ws 17) 23 16 == 0 && bits (wordAt ws 18) 23 16 == 0 && bits (wordAt ws 20) 31 16 == 0 &&
    decide (1 ≤ nh) && decide (nh ≤ 64) && decide (8 ≤ dh) && decide (dh ≤ 256) && decide (1 ≤ bits (wordAt ws 18) 15 0) &&
    decide (bits (wordAt ws 18) 15 0 ≤ 4096) && [q, k, v, o].all (fun t => t.cols == nh * dh) && k.rows == v.rows && k.dyn == v.dyn &&
    o.rows == q.rows && q.dyn == o.dyn && floatPair q.fmt k.fmt && (v.fmt == Fmt.bf16 || isCb v.fmt) && floatOut o.fmt &&
    (if books then decide (kv % 4 = 0) && im.holds kv 8 && kvBookOk s k kv && kvBookOk s v (kv + 4) && decide (dh % 32 = 0) else kv == 0) &&
    (pos == 0 || (decide (pos % 4 = 0) && im.holds pos 8 &&
      posTable (s.rd32 pos).toNat q.rows && posTable (s.rd32 (pos + 4)).toNat k.rows)) &&
    decide (k.rows ≤ 65535) && (layer == 0xFF || decide (layer < im.npl s)) &&
    (layer == 0xFF || decide (pos ≠ 0) ||
      (List.range im.ng).all fun g => bits (s.rd32 (gradeEntry im layer + 16 + 8 * g)) 15 0 == 0xFFFF) &&
    decide (nh * ceilDiv q.rows 32 ≤ 65535) && scratchOk s im (attnBlock ws)
where
  /-- A position table (R490). -/
  posTable (a rows : Nat) : Bool := decide (a % 8 = 0) && inSramDram a (8 * rows)

/-- The address of a number of shape words, or 0 for none: aligned, in shared SRAM (R448, R468). -/
def shapeWordsOk (a n : Nat) : Bool := a == 0 || (decide (a % 4 = 0) && inShared a (4 * n))

/-- ROUTE (R449). -/
def routeOk (layers : List Layer) (ws : List Word) : Bool :=
  let l := trefAt ws 1
  let w := wordAt ws 7
  let ranks := if bit w 31 then 2 else 1
  let tag := (wordAt ws 5).toNat
  let gate := (wordAt ws 6).toNat
  trefOk ws 1 && (l.fmt == Fmt.fp32 || l.fmt == Fmt.bf16) && bits w 30 24 == 0 && bits w 15 9 == 0 && decide (1 ≤ bits w 8 0) &&
    decide (bits w 8 0 ≤ 256) && decide (l.rows ≤ 4096) && l.cols == bits w 8 0 && (!bit w 31 || decide (2 ≤ bits w 8 0)) &&
    (layers.any fun x => x.layer == bits w 23 16 && x.experts.length == bits w 8 0 && x.top2 == bit w 31) &&
    decide (tag % 4 = 0) && inSramDram tag (4 * l.rows * ranks) && decide (gate % 2 = 0) && inSramDram gate (2 * l.rows * ranks) &&
    shapeWordsOk (wordAt ws 8).toNat (bits w 8 0)

/-- Whether a format is an integer one. -/
def isIntFmt (f : Nat) : Bool := decide (f ≤ Fmt.i32)

/-- QUANT (R428, R433). -/
def quantOk (s : State) (im : Image) (ws : List Word) : Bool :=
  let x := trefAt ws 1
  let y := trefAt ws 5
  let w := wordAt ws 10
  let dir := bit w 23
  let gran := bits w 27 26
  let side := if dir then x else y
  let other := if dir then y else x
  let scale := (wordAt ws 9).toNat
  let sfmt := bits w 31 28
  let count := if gran = 0 then 1 else if gran = 1 then x.cols else x.rows
  let size := if sfmt = Fmt.bf16 then 2 else 1
  let smooth := (wordAt ws 11).toNat
  trefOk ws 1 && trefOk ws 5 && oneShape [x, y] && bits w 22 20 == 0 && bits w 15 0 == 0 && bits (wordAt ws 12) 31 16 == 0 &&
    (other.fmt == Fmt.fp32 || other.fmt == Fmt.bf16 || (!dir && other.fmt == Fmt.i32)) && decide (side.fmt ≠ Fmt.p2) &&
    (bits (wordAt ws 12) 15 0 == 0 || isIntFmt side.fmt) && !(bit w 25 && dir) && (gran == 0 || !isCb side.fmt) && decide (gran ≠ 3) &&
    x.rows == y.rows && x.cols == y.cols &&
    (if isCb side.fmt then codebookOk s scale x.cols (codeEntries side.fmt) [Fmt.i8, Fmt.bf16] false (im.holds scale)
     else scale == 0 ||
      ((sfmt == Fmt.bf16 || sfmt == Fmt.p2) && decide (scale % size = 0) && inSramDram scale (count * size))) &&
    (!bit w 25 || (decide (smooth % 2 = 0) && inSramDram smooth (2 * x.cols)))

/-- ROTATE (R435, Table 8-7). -/
def rotateOk (ws : List Word) : Bool :=
  let x := trefAt ws 1
  let y := trefAt ws 5
  let f := fun t : Tref => t.fmt == Fmt.fp32 || t.fmt == Fmt.bf16 || t.fmt == Fmt.i32
  trefOk ws 1 && trefOk ws 5 && oneShape [x, y] && f x && f y && decide (x.cols % 64 = 0) && x.rows == y.rows && x.cols == y.cols

/-- VECOP (Table 8-7): a second operand for ADD and MUL, and for norms unless all its words are 0; EPS for norms. -/
def vecopOk (ws : List Word) : Bool :=
  let op := bits (wordAt ws 13) 7 0
  let zeros := (List.range 4).all fun i => wordAt ws (9 + i) == 0
  let uses := op == 4 || op == 5 || ((op == 2 || op == 3) && !zeros)
  trefOk ws 1 && trefOk ws 5 && bits (wordAt ws 13) 31 8 == 0 && decide (1 ≤ op) && decide (op ≤ 9) &&
    (if uses then trefOk ws 9 && oneShape [trefAt ws 1, trefAt ws 5, trefAt ws 9]
     else oneShape [trefAt ws 1, trefAt ws 5] && zeros) &&
    (op == 2 || op == 3 || wordAt ws 14 == 0)

/-- A wire tensor of a layer (R454, R456). -/
def wireOk (l : Layer) (t : Tref) : Bool :=
  t.cols == l.w && t.stride == 0 && t.fmt == l.xfmt && inSramDram t.addr (wireScale t.rows l.w t.rows)

/-- The layer that a number names. -/
def findLayer (layers : List Layer) (n : Nat) : Option Layer := layers.find? fun l => l.layer == n

/-- SCATTER and SORT (R456, Table 8-8). -/
def sendOk (layers : List Layer) (ws : List Word) (w : Word) : Bool :=
  match findLayer layers (bits w 23 16) with
  | none => false
  | some l => trefOk ws 1 && wireOk l (trefAt ws 1) && bits w 31 24 == 0 && bits w 15 4 == 0 && bits w 3 0 == l.xfmt

/-- EXCHANGE (R456, R471, R477, Table 8-8). `rows` are the declared ROWS of every SCATTER and SORT of the layer. -/
def exchangeOk (layers : List Layer) (rows : Nat → List Nat) (ws : List Word) : Bool :=
  let w := wordAt ws 4
  let bytes := (wordAt ws 3).toNat
  match findLayer layers (bits w 23 16) with
  | none => false
  | some l =>
    bits w 31 24 == 0 && bits w 15 9 == 0 && bits w 7 4 == 0 && bits w 3 0 == l.xfmt && bits (wordAt ws 5) 31 22 == 0 &&
      (if bit w 8 then (rows l.layer).all fun t => decide (up16 (t * l.w) + t ≤ bytes / 2)
       else !l.sorted || (decide (1024 ≤ bytes) && decide (256 ≤ bits (wordAt ws 5) 15 0)))

/-- COMBINE (R456, R482, Table 8-8). -/
def combineOk (layers : List Layer) (ws : List Word) : Bool :=
  let w := wordAt ws 14
  match findLayer layers (bits w 23 16) with
  | none => false
  | some l =>
    let r := trefAt ws 1
    let y := fun i => trefOk ws i && wireOk l (trefAt ws i) && (trefAt ws i).rows == r.rows
    trefOk ws 1 && (r.fmt == Fmt.fp32 || r.fmt == Fmt.bf16) && y 5 && bits w 30 24 == 0 && bit w 31 == l.top2 &&
      (if l.top2 then y 9 && oneShape [r, trefAt ws 5, trefAt ws 9]
       else oneShape [r, trefAt ws 5] && (List.range 4).all fun i => wordAt ws (9 + i) == 0)

/-- Bytes of a pyramid of n levels over a source of c columns and r rows (R562). -/
def pyramidBytes : Nat → Nat → Nat → Nat
  | 0, _, _ => 0
  | 1, c, r => c * r
  | n + 1, c, r => up16 (c * r) + pyramidBytes n (c / 2) (r / 2)

/-- PIXEL (R563). -/
def pixelOk (ws : List Word) : Bool :=
  let w := wordAt ws 1
  let b := bits w 27 26
  let f := if b = 1 then 2 else if b = 2 then 16 else 1
  let ok := fun i n => decide ((wordAt ws i).toNat % 16 = 0) && inSramDram (wordAt ws i).toNat n
  decide (bits w 31 28 ≤ 3) && decide (b ≠ 3) && decide (1 ≤ bits w 25 24) && decide (bits w 23 20 ≤ 1) && bits w 15 0 == 0 &&
    ok 3 (pyramidBytes (bits w 25 24) (1024 / f) (768 / f)) && ok 5 16 && (if bit w 19 then ok 4 1056 else wordAt ws 4 == 0) &&
    (if bits w 31 28 = 3 then ok 2 (1024 * 768 * 2) else wordAt ws 2 == 0)

/-- Control commands (Table 8-9, R335, R345). -/
def controlOk (nslot own : Nat) (ws : List Word) : Bool :=
  let o := hdrOpc (wordAt ws 0)
  let w := wordAt ws 1
  if o = 0x02 then decide (1 ≤ bits w 31 16) && bits w 15 6 == 0 && bits (wordAt ws 2) 31 20 == 0
  else if o = 0x03 then decide (1 ≤ bits w 31 16) && bits w 15 6 == 0
  else if o = 0x04 then bits w 30 9 == 0 && decide (bits w 8 0 < nslot) && decide (bits w 8 0 ≠ own)
  else if o = 0x05 then decide (w.toNat % 4 = 0) && inShared w.toNat 4 && bits (wordAt ws 2) 31 16 == 0
  else true

/-- LAYER of an XE command. -/
def xeLayerOf (ws : List Word) : Option Nat :=
  let o := hdrOpc (wordAt ws 0)
  if o = 0x21 then some (bits (wordAt ws 6) 23 16)
  else if o = 0x22 then some (bits (wordAt ws 7) 23 16)
  else if o = 0x23 then some (bits (wordAt ws 4) 23 16)
  else if o = 0x24 then some (bits (wordAt ws 14) 23 16)
  else none

/-- One command of slot entry n (step 5 of Table 8-11). -/
def commandOk (s : State) (im : Image) (layers : List Layer) (rows : Nat → List Nat) (n eng : Nat) (ws : List Word) : Bool :=
  let o := hdrOpc (wordAt ws 0)
  commandHeaderOk eng ws &&
    (if o = 0x10 ∨ o = 0x11 then matrixOk s im ws && matrixShapesOk ws
     else if o = 0x12 then attendOk s im ws
     else if o = 0x20 then routeOk layers ws
     else if o = 0x30 then quantOk s im ws
     else if o = 0x31 then rotateOk ws
     else if o = 0x32 then vecopOk ws
     else if o = 0x21 then sendOk layers ws (wordAt ws 6) && bits (wordAt ws 7) 31 6 == 0
     else if o = 0x22 then sendOk layers ws (wordAt ws 7) && shapeWordsOk (wordAt ws 8).toNat 32
     else if o = 0x23 then exchangeOk layers rows ws
     else if o = 0x24 then combineOk layers ws
     else if o = 0x40 then pixelOk ws
     else controlOk im.slots.length n ws)

/-- A PIXEL command with an imager source. -/
def imagerCommand (ws : List Word) : Bool := hdrOpc (wordAt ws 0) == 0x40 && bits (wordAt ws 1) 31 28 == 0

/-- All commands of the lists of some entries, as far as they are whole. -/
def allCommands (s : State) (l : List Slot) : List (List Word) := l.flatMap fun x => (x.commands s).getD []

/-- The image binds a PIXEL command with an imager source (Table 6-1, PRODUCT). -/
def bindsImager (s : State) (im : Image) : Bool := (allCommands s im.slots).any imagerCommand

/-- Number of different values in a list. -/
def countDistinct : List Nat → Nat
  | [] => 0
  | a :: t => (if t.contains a then 0 else 1) + countDistinct t

/-- Declared ROWS of X of every SCATTER and SORT of a layer (R477). -/
def sendRows (s : State) (im : Image) (layer : Nat) : List Nat :=
  ((allCommands s im.slots).filter fun ws =>
    (hdrOpc (wordAt ws 0) == 0x21 || hdrOpc (wordAt ws 0) == 0x22) && xeLayerOf ws == some layer).map fun ws => (trefAt ws 1).rows

/-- Slot entry n with its commands (step 5 of Table 8-11), and what the rules count over the lists so far (R461, R481, R557). -/
def entryOk (s : State) (im : Image) (layers : List Layer) (n : Nat) : Bool :=
  match im.slots[n]? with
  | none => true
  | some x =>
    match x.commands s with
    | none => false
    | some cs =>
      let sofar := allCommands s (im.slots.take (n + 1))
      cs.all (commandOk s im layers (sendRows s im) n x.eng) &&
        decide ((cs.filter fun ws => hdrOpc (wordAt ws 0) == 0x21 || hdrOpc (wordAt ws 0) == 0x23).length ≤ 1) &&
        (!cs.any imagerCommand || decide ((sofar.filter imagerCommand).length ≤ 1)) &&
        (!cs.any (fun ws => (xeLayerOf ws).isSome) || decide (countDistinct (sofar.filterMap xeLayerOf) ≤ 32))

/-- The expert layers of an image. -/
def imageLayers (s : State) (im : Image) : List Layer := if im.mapLen = 0 then [] else mapLayers s (im.addr + im.mapOff)

/-- The first entry that step 4 or step 5 of Table 8-11 refuses. -/
def badEntry (im : Image) (ok : Nat → Bool) : Option Nat := (List.range im.slots.length).find? fun n => !ok n

/-- BIN_SMALL: a direct-mode bin holds fewer tokens than its layer declares (Table 6-1, R452). -/
def binSmall (s : State) (im : Image) : Bool :=
  (imageLayers s im).any fun l => !l.sorted && l.experts.any fun e => decide (e.slots < e.cap)

/-- GRADE_ORDER: some grade prunes less than the grade below it in some layer (R512). -/
def gradeOrderBad (s : State) (im : Image) : Bool :=
  (List.range (im.npl s)).any fun l => (List.range (im.ng - 1)).any fun g =>
    let a := gradeEntry im l + 16 + 8 * g
    decide (bits (s.rd32 a) 15 0 < bits (s.rd32 (a + 8)) 15 0) ||
      decide (signed 32 (s.rd32 (a + 12)).toNat < signed 32 (s.rd32 (a + 4)).toNat)

/-- CRC-32 of the map table; of no bytes without one (Table 6-1, MAP_HASH). -/
def mapHash (s : State) (im : Image) : Word := crc32 (s.rdBytes (im.addr + im.mapOff) im.mapLen)

end Sys2Proof.Machine
end

