-- ==== Sys2Proof/Machine/Check.lean ====
section
/-! DEFINITION. The consistency checks of Table 6-1 and the judgements of R515, R539 and R570. -/

namespace Sys2Proof.Machine

/-- What the checks read of an image: P_MIN, the estimate that stands for G3 (R288), the CRC-32 of its map, and whether it binds an
imager source. -/
structure ImgFacts where
  pMin   : Nat
  est    : Nat
  hash   : Word
  imager : Bool

/-- The facts of the loaded image. -/
def loadedFacts (s : State) : Option ImgFacts :=
  s.eng.image.map fun im =>
    { pMin := im.pMin, est := s.estimate (im.ng - 1), hash := s.stored Reg.stgMapHash, imager := bindsImager s im }

/-- The facts of an image to be loaded. -/
def newFacts (s : State) (im : Image) : ImgFacts :=
  { pMin := im.pMin, est := imageEst s im (im.ng - 1), hash := mapHash s im, imager := bindsImager s im }

/-- Registers as words: what a set of checks is judged on. -/
abbrev View := Nat → Word

/-- EN of a converter's regular and injected sequence. -/
def regOn (p : View) (c : Conv) : Bool := bit (p (regCtrl c)) 31

/-- EN of a converter's injected sequence. -/
def injOn (p : View) (c : Conv) : Bool := bit (p (injCtrl c)) 31

/-- Channel codes that the enabled sequences of a converter convert. -/
def channelsOn (p : View) (c : Conv) : List Nat :=
  (if regOn p c then (regularEntries p c).map (fun e => e.2) else []) ++ (if injOn p c then (injectedEntries p c).map (fun e => e.2) else [])

/-- FUNC of a GPIO ball. -/
def gpioFunc (p : View) (n : Nat) : Nat := bits (p (Reg.pmGpioCfg0 + 4 * n)) 3 0

/-- PIN_CONFLICT (R661, R664). -/
def pinConflict (p : View) : Bool :=
  (List.range 8).any (fun n => decide (8 ≤ gpioFunc p n) || bits (p (Reg.pmGpioCfg0 + 4 * n)) 9 8 == 3) ||
    (List.range 8).any fun n => decide (2 ≤ gpioFunc p n) && (List.range n).any fun m => gpioFunc p m == gpioFunc p n

/-- AIN_MODE (R667, R743). -/
def ainMode (p : View) : Bool :=
  let used := convs.flatMap (channelsOn p) ++ (if bit (p Reg.adcCross) 31 then [bits (p Reg.adcCross) 20 16] else []) ++
    ((List.range 4).filter fun n => bit (p (Reg.cmp0Ctrl + 4 * n)) 31) ++
    (if bit (p Reg.tdacCtrl) 30 then [bits (p Reg.tdacCtrl) 19 16] else [])
  used.any fun c => decide (c < 16) && !bit (p Reg.pmAinMode) c

/-- REFLEX_LOCK (R258). A marked comparator is protected whatever its prospective EN: R258 names no EN, and the check protects the
marks, not a running comparator. DESIGN CHOICE, log entry 103: R743 judges a comparator only while its EN is 1. -/
def reflexLock (p start : View) (keyed : Bool) : Bool :=
  !keyed && (List.range 4).any fun n =>
    let a := Reg.cmp0Ctrl + 4 * n
    bit (start a) 30 && (!bit (p a) 30 || (bit (start a) 29 && !bit (p a) 29))

/-- Entries per tick of a converter that the mover serves (R620). -/
def moverEntries (p : View) (c : Conv) : Nat :=
  let period := bits (p Reg.tickPeriod) 19 0
  let span := if bit (p Reg.tickCtrl) 1 then period else period - guardOf period
  let tmr := bits (p (Reg.adcATmr + convBase c)) 19 0
  let edge := if bit (p (regCtrl c)) 29 then 1 else 0
  let timer := if bit (p (regCtrl c)) 28 && decide (tmr ≠ 0) then ceilDiv span tmr - 1 else 0
  if regOn p c && bit (p Reg.mvCtrl) (convIndex c) then
    (regularEntries p c).length * (edge + timer) + (if bit (p Reg.adcCross) 31 then 1 else 0)
  else 0

/-- MOVER_PAGE (R620). -/
def moverPage (s : State) (p : View) : Bool :=
  let base := (p Reg.mvBase).toNat
  let shape := (p Reg.mvShape).toNat
  bits (p Reg.mvCtrl) 1 0 != 0 &&
    (!inSramDram base 8192 || !s.poweredAll base 8192 || !inShared shape 8 || decide (1024 < (convs.map (moverEntries p)).sum))

/-- EXPO_FIT (R552, R743). -/
def expoFit (p : View) : Bool :=
  let period := bits (p Reg.tickPeriod) 19 0
  let off := bits (p Reg.imgExpoOff) 19 0
  let fin := off + max 10 (bits (p Reg.imgExpoTime) 19 0)
  let gs := period - guardOf period
  bit (p Reg.imgCtrl) 0 && (decide (gs ≤ fin) ||
    (bit (p Reg.imgCtrl) 8 && (decide (off < bits (p Reg.imgStrobe) 15 0) || decide (gs ≤ fin + bits (p Reg.imgStrobe) 31 16))))

/-- RANGE: staged-class fields outside the ranges or the codes that their field tables state (Table 6-1), a sequence's LEN only while
the sequence is enabled and NCH only in channel mode (R743). A field that another check judges too fails both (log entry 40). -/
def rangeBad (p : View) : Bool :=
  let out := fun v lo hi => decide (v < lo) || decide (hi < v)
  out (bits (p Reg.tickPeriod) 19 0) 1000 1000000 || out (bits (p Reg.rlCtrl) 7 0) 1 255 ||
    out (bits (p Reg.wmDwell) 7 0) 1 255 || out (bits (p Reg.wmDwell) 15 8) 1 255 ||
    ((List.range 16).any fun n =>
      let w := p (Reg.qsColCtrl0 + 4 * n)
      out (bits w 15 0) 1 65535 || (bit w 30 && out (bits w 26 16) 1 1024)) ||
    (convs.any fun c => injOn p c && decide (4 < bits (p (injCtrl c)) 18 16)) ||
    (List.range 8).any fun n => decide (8 ≤ gpioFunc p n) || bits (p (Reg.pmGpioCfg0 + 4 * n)) 9 8 == 3

/-- PRODUCT on the staged fields: an imager, exposure or STROBE function that is enabled (Table 6-1). STROBE is judged while EN and
STROBE_EN are both 1 (R743), on a BRN-C64 too (R584; log entry 104), so that EN alone decides. -/
def productBad (s : State) (p : View) : Bool :=
  !s.imagerPresent &&
    (bit (p Reg.imgCtrl) 0 || bit (p Reg.watchCtrl) 24 || (bit (p Reg.imgCtrl) 0 && bit (p Reg.imgCtrl) 8))

/-- Whether a level's conditions of Table 3-9 hold for WATCH; the keeper set is up whenever a set is judged (R745). -/
def watchOffered (s : State) : Bool := s.pwr.shSramOk && s.pwr.mramOk && decide (4 ≤ s.coreCount)

/-- Checks 0 to 21 of Table 6-1: true where a check fails. A load judges PERIOD_SHORT against the live PERIOD too (R58), and
BIN_SMALL and GRADE_ORDER on the image itself. -/
def checkBits (s : State) (p : View) (img : Option ImgFacts) (loading : Option Image) : List Bool :=
  let period := bits (p Reg.tickPeriod) 19 0
  let anySeq := convs.any fun c => regOn p c || injOn p c
  [ pinConflict p,
    ainMode p,
    anySeq && !s.adc.refReady,
    img.any fun f => decide (period < f.pMin) || (loading.isSome && decide (s.period < f.pMin)),
    img.any fun f => decide (bits (p Reg.enBudget) 23 0 < f.est + ceilDiv (3 * period) 2000),
    img.any fun f => f.hash != p Reg.stgRowHash,
    loading.any (binSmall s),
    loading.any (gradeOrderBad s),
    reflexLock p s.starting (shadowOf s.stg.bank Reg.stgUnlock == some 0x5EED),
    productBad s p || (!s.imagerPresent && img.any fun f => f.imager),
    convs.any fun c => !s.convOk c && (regOn p c || injOn p c || bit (p Reg.adcCross) 31 || bit (p Reg.mvCtrl) (convIndex c)),
    convs.any fun c =>
      (regOn p c && (decide (16 < (regularEntries p c).length) || (regularEntries p c).isEmpty ||
        (regularEntries p c).any fun e => decide (22 < e.2))) ||
      (injOn p c && (decide (4 < bits (p (injCtrl c)) 18 16) || (injectedEntries p c).any fun e => decide (22 < e.2))),
    bit (p Reg.adcCross) 31 && (decide (15 < bits (p Reg.adcCross) 20 16) || bits (p Reg.adcCross) 11 0 == 0),
    expoFit p,
    bit (p Reg.imgCtrl) 0 && s.fuse.isV64 && decide (period < if bit (p Reg.imgCtrl) 1 then 4167 else 8334),
    decide (bits (p Reg.thLimits) 23 16 ≤ bits (p Reg.thLimits) 7 0),
    moverPage s p,
    convs.any fun c => injOn p c && bits (p (injCtrl c)) 18 16 == 0 && (bits (p (injCtrl c)) 3 0 != 0 || bit (p (regCtrl c)) 27),
    bit (p Reg.rlLock) 8 && (bits (p Reg.rlLock) 5 0 == 0 || decide (32 < bits (p Reg.rlLock) 5 0)),
    bit (p Reg.pwrLevel) 0 && !watchOffered s,
    (List.range 4).any fun n =>
      let w := p (Reg.cmp0Ctrl + 4 * n)
      bit w 31 && bit w 26 && bits w 15 8 == 0,
    rangeBad p ]

/-- FAIL of CHECK, COMMIT and COMMIT_AT (R241, R243, R244). -/
def failMask (s : State) : Nat := fromBits (checkBits s s.prospective (loadedFacts s) none)

/-- FAIL of LOAD_IMAGE: the checks marked "image" and "both" against the new image (R243). -/
def loadMask (s : State) (im : Image) : Nat :=
  fromBits ((checkBits s s.prospective (some (newFacts s im)) (some im)).zipIdx.map fun x => x.1 && decide (x.2 ∈ [3, 4, 5, 6, 7, 9]))

/-- Whether the scene-memory settings are valid (R515). -/
def smSettingsOk (p : View) : Bool :=
  let nf := bits (p Reg.smCtrl) 5 0
  let rows := bits (p Reg.smRows) 15 0
  let kb := bits (p Reg.smRowbytes) 15 0
  let vb := bits (p Reg.smRowbytes) 31 16
  let n := (nf + 1) * rows
  let regions := [((p Reg.smKBase).toNat, n * kb), ((p Reg.smVBase).toNat, n * vb), ((p Reg.smPBase).toNat, n * 8)]
  let clear := fun i j => match regions[i]?, regions[j]? with
    | some a, some b => !overlaps a.1 a.2 b.1 b.2
    | _, _ => true
  decide (1 ≤ nf) && decide (1 ≤ rows) && decide (n ≤ 65535) && decide (kb ≠ 0) && decide (kb % 16 = 0) && decide (vb ≠ 0) &&
    decide (vb % 16 = 0) && regions.all (fun g => decide (g.1 % 16 = 0) && inOneRange g.1 g.2 && regionOf g.1 == some .dram) &&
    clear 0 1 && clear 0 2 && clear 1 2 && decide ((p Reg.smShape).toNat % 4 = 0) && inShared (p Reg.smShape).toNat 4

/-- Whether the result-page settings are valid (R539). -/
def resSettingsOk (s : State) (p : View) : Bool :=
  let len := bits (p Reg.resLen) 15 0
  let a := (p Reg.resWork).toNat
  let b := (p Reg.resPage0).toNat
  let c := (p Reg.resPage1).toNat
  [a, b, c].all (fun x => decide (x % 16 = 0) && inShared x len) && !overlaps a len b len && !overlaps a len c len &&
    !overlaps b len c len && decide (len % 16 = 0) && decide (32 ≤ len) && decide (len ≤ 65520) &&
    s.eng.image.all fun im => decide (bits (p Reg.resCtrl) 8 0 < im.slots.length)

/-- Whether the watch settings are valid (R570). -/
def watchSettingsOk (p : View) : Bool :=
  let period := bits (p Reg.tickPeriod) 19 0
  let wdiv := bits (p Reg.watchCtrl) 7 0
  let wper := bits (p Reg.watchCtrl) 19 8
  let off := bits (p Reg.watchExpo) 31 16
  decide (1 ≤ wdiv) && decide (66667 ≤ wdiv * period) && decide (wdiv * period ≤ 1000000) && decide (67 ≤ wper) && decide (wper ≤ 1000) &&
    decide (off + bits (p Reg.watchExpo) 15 0 + bits (p Reg.imgStrobe) 31 16 < period - guardOf period) &&
    (!bit (p Reg.watchCtrl) 24 || decide (bits (p Reg.imgStrobe) 15 0 ≤ off))

/-- The registers that R515 reads. -/
def smRegs : List Nat := [Reg.smCtrl, Reg.smRows, Reg.smRowbytes, Reg.smKBase, Reg.smVBase, Reg.smPBase, Reg.smShape]

/-- The registers that R539 reads. -/
def resRegs : List Nat := [Reg.resCtrl, Reg.resWork, Reg.resPage0, Reg.resPage1, Reg.resLen]

/-- The registers that R570 reads. -/
def watchRegs : List Nat := [Reg.watchCtrl, Reg.watchExpo, Reg.imgStrobe, Reg.tickPeriod]

/-- Judge the scene-memory settings (R515, R744). -/
def judgeSm : Prog :=
  .look fun s =>
    if s.flag Reg.smCtrl 31 then
      .seq (modSm fun m => { m with valid := smSettingsOk s.stored })
        (Prog.when (!smSettingsOk s.stored) (.seq (setFlag .smBad) (raise 0x0702 2 0)))
    else modSm fun m => { m with valid := false }

/-- Judge the result-page settings (R539, R744). -/
def judgeRes : Prog :=
  .look fun s =>
    if s.flag Reg.resCtrl 31 then
      .seq (modRes fun r => { r with valid := resSettingsOk s s.stored }) (setFlagIf (!resSettingsOk s s.stored) .resBad)
    else modRes fun r => { r with valid := false }

/-- Judge the watch settings (R570, R744). -/
def judgeWatch : Prog :=
  .look fun s => .seq (modWm fun w => { w with settings := watchSettingsOk s.stored }) (setFlagIf (!watchSettingsOk s.stored) .watchBad)

end Sys2Proof.Machine
end

