-- ==== Sys2Proof/Machine/Link.lean ====
section
/-! DEFINITION. The Row Link (chapter 4): ordered sets, acceptance and routing of frames, acknowledgement and retry, link
bring-up and loss, enumeration. -/

namespace Sys2Proof.Machine

/-- Send a NAK naming the expected SEQ: at most one for it in any 4 µs (R153). -/
def sendNak (p : Port) (reason : Nat) : Prog :=
  .look fun s =>
    let q := s.port p
    let recent := q.nakFor.filter fun n => decide (s.now - n.2 < 4000)
    Prog.when (!recent.any fun n => n.1 == q.rxExp)
      (.seq (modPort p fun q => { q with nakFor := recent ++ [(q.rxExp, s.now)] })
        (sendOset p 0x31 [q.rxExp, BitVec.ofNat 8 reason, 0, 0, 0]))

/-- A bad frame is discarded, counted and NAKed (R142, R153). -/
def badFrame (p : Port) (reason : Nat) : Prog := .seq (addSat Reg.rlCrcCnt 31 0 1) (sendNak p reason)

/-- A frame that ended in EOF with a good CRC: accepted in sequence, acknowledged again, or NAKed (R142, R151 to R153). No
frame arrives on a port whose link is down. -/
def acceptFrame (p : Port) (typ : BitVec 4) (f : RxFrame) (k : Prog) : Prog :=
  .look fun s =>
    let q := s.port p
    let back := (q.rxExp - f.seq).toNat
    if !q.up then .skip
    else if !goodLen typ f.payload.length then badFrame p 4
    else if back = 0 then
      .seq (modPort p fun q => { q with rxExp := q.rxExp + 1 }) (.seq (sendOset p 0x30 [f.seq, 0, 0, 0, 0]) k)
    else if back ≤ 64 then sendOset p 0x30 [q.rxExp - 1, 0, 0, 0, 0]
    else sendNak p 3

/-- Release the buffer of a frame that was consumed or discarded (R162). -/
def releaseFrame (p : Port) (typ : BitVec 4) (f : RxFrame) : Prog :=
  releaseUnits p (creditClass1 typ) (creditUnits f.payload.length)

/-- Whether the instant that WIN names has passed, or WIN names another tick (Table 4-3, R155, R198). An unaddressed node carries no tick of the
row to judge it by (R49), and forwards the frame (R146). -/
def winPassed (s : State) (win : Word) : Bool :=
  s.link.addr != 0 && (decide (bits win 27 20 ≠ s.tick.num.toNat % 256) || decide (bits win 19 0 ≤ s.offset))

/-- Whether a frame may be sent no more (R155). -/
def spent (s : State) (f : TxFrame) : Bool := decide (3 ≤ f.resends) || (creditClass1 f.typ && winPassed s f.win)

/-- DATA of the LINK_GIVEUP EVENT for the first abandoned frame (R157, Table 4-8). -/
def giveupData (f : TxFrame) : Word :=
  place f.src.toNat 29 24 ||| place f.dst.toNat 21 16 ||| place (if creditClass1 f.typ then f.aux.toNat else 0) 15 0

/-- Frames are abandoned: LINK_GIVEUP is set and reported once (R156, R157). -/
def giveup (fs : List TxFrame) : Prog :=
  match fs with
  | [] => .skip
  | f :: _ => Prog.all [setFlag .linkGiveup, raise 0x0303 1 (giveupData f), sendEvent 0x0103 (giveupData f)]

/-- Tell the receiver of a port which SEQ comes next, after n abandoned frames (R156). -/
def sendSeqsync (p : Port) (next : Byte) (n : Nat) : Prog := sendOset p 0x32 [next, BitVec.ofNat 8 n, 0, 0, 0]

/-- Send a frame, but abandon a token frame whose WIN has passed: it starts no transmission any more (R155 to R157). -/
def sendInTime (p : Port) (f : TxFrame) : Prog :=
  .look fun s =>
    if spent s f && (s.port p).up then Prog.all [releaseHeld f, sendSeqsync p (s.port p).txSeq 1, giveup [f]] else sendFrame p f

/-- Forward a frame on the port opposite to its arrival (R146 to R149). -/
def forwardFrame (p : Port) (typ : BitVec 4) (f : RxFrame) : Prog :=
  sendInTime p.opposite
    { typ := typ, dst := f.dst, src := f.src, seq := 0, aux := f.aux, win := f.win, payload := f.payload, resends := 0, holds := some p }

/-- Forward a token frame that the node consumes too (R144). Its units stay with what consumes it, and with the copy where that still waits then
(R164, releaseToken). -/
def forwardCopy (p : Port) (typ : BitVec 4) (f : RxFrame) : Prog :=
  sendInTime p.opposite
    { typ := typ, dst := f.dst, src := f.src, seq := 0, aux := f.aux, win := f.win, payload := f.payload, resends := 0, holds := none }

/-- Where an accepted frame goes (Table 4-5, R146). -/
inductive Way where
  | consume
  | forward
  | both
  | discard
  deriving DecidableEq, Repr

/-- The way of a frame by its port of arrival, its DST and the node's address (Table 4-5, R146). -/
def wayOf (addr : Nat) (p : Port) (dst : Nat) : Way :=
  if dst = 0 then .consume
  else if addr = 0 then .forward
  else if dst = addr then .consume
  else
    match p with
    | .up => if addr + 1 ≤ dst ∧ dst ≤ 32 then .forward else if dst = 0x3F then .both else .discard
    | .dn => if 1 ≤ dst ∧ dst ≤ addr - 1 then .forward else .discard

/-- Route an accepted frame (R144). What consumes it releases its buffer too. -/
def routeFrame (p : Port) (typ : BitVec 4) (f : RxFrame) (consume : Prog) : Prog :=
  .look fun s =>
    match wayOf s.link.addr.toNat p f.dst.toNat with
    | .consume => .seq consume (releaseFrame p typ f)
    | .forward => forwardFrame p typ f
    | .both => .seq consume (forwardFrame p typ f)
    | .discard => .seq (setFlag .misroute) (releaseFrame p typ f)

/-- A frame of a class 0 TYPE arrives. -/
def receiveFrame (p : Port) (typ : BitVec 4) (f : RxFrame) (consume : Prog) : Prog :=
  acceptFrame p typ f (routeFrame p typ f consume)

/-- What a resend puts onto the lanes: the frames in order, each after a SEQSYNC where SEQs before it have been abandoned, and one at
the end where the last ones have (R154, R156). `exp` is the SEQ that the receiver expects. -/
def resendItems (exp last : Byte) : List TxFrame → List WireItem
  | [] => if exp = last then [] else [.set ⟨0x32, [last, last - exp, 0, 0, 0]⟩]
  | f :: t =>
    (if f.seq = exp then [.frame f] else [.set ⟨0x32, [f.seq, f.seq - exp, 0, 0, 0]⟩, .frame f]) ++ resendItems (f.seq + 1) last t

/-- The waiting sets that leave before what a resend puts onto the lanes: where that begins with or holds a SEQSYNC, those of its rank or an
earlier one (R136, R187). -/
def PortSt.ahead (q : PortSt) (items : List WireItem) : List OSet :=
  if items.any (fun i => match i with
    | .set _ => true
    | _ => false)
  then q.osets.filter fun o => decide (osetRank o.typ.toNat ≤ 3) else []

/-- A port puts items onto its lanes, behind the sets that go first. -/
def PortSt.putOut (q : PortSt) (items : List WireItem) : PortSt :=
  { q with
    sent := q.sent ++ (q.ahead items).map WireItem.set ++ items
    osets := if (q.ahead items).isEmpty then q.osets else q.osets.filter fun o => decide (3 < osetRank o.typ.toNat) }

/-- Whether a SEQ lies at or after another, among the 128 that follow it (R152, R154). -/
def seqReaches (a b : Byte) : Bool := decide ((b - a).toNat < 128)

/-- Resend the frames from a SEQ on, in order; those that may be sent no more are dropped, and SEQSYNCs name the SEQs that follow the
gaps (R154 to R156). -/
def resendFrom (p : Port) (seq : Byte) : Prog :=
  .look fun s =>
    let q := s.port p
    let late := q.replay.filter fun f => seqReaches seq f.seq
    let gone := late.filter (spent s)
    let kept := (late.filter fun f => !spent s f).map fun f => { f with resends := f.resends + 1 }
    Prog.when (!late.isEmpty) (Prog.all [
      modPort p fun q =>
        { q.putOut (resendItems seq q.txSeq kept) with replay := (q.replay.filter fun f => !seqReaches seq f.seq) ++ kept },
      addSat Reg.rlRetryCnt 31 0 kept.length,
      giveup gone])

/-- Milliseconds since the end of reset, at most 255 (Table 3-14). -/
def State.bootMs (s : State) : Nat := min 255 ((s.now - s.pwr.bootAt) / 1000000)

/-- ROW_UP becomes 1; the first time since reset its milestone is kept (Table 3-14, R174, R175, R178). -/
def setRowUp : Prog :=
  .look fun s => Prog.when (!s.link.rowUp)
    (.seq (modLink fun l => { l with rowUp := true }) (setFld Reg.pwrBootTime 15 8 s.bootMs))

/-- Whether the node stands at another position than its lock names (R182). -/
def lockMismatch (s : State) : Bool :=
  s.flag Reg.rlLock 8 &&
    (decide (s.link.addr.toNat ≠ s.fld Reg.rlLock 5 0) ||
      decide (s.fuse.serial ≠ (s.stored Reg.rlLockSerHi).setWidth 64 <<< 32 ||| (s.stored Reg.rlLockSerLo).setWidth 64))

/-- LOCK_BAD follows the lock (R183). -/
def evalLock : Prog := .look fun s => modLink fun l => { l with lockBad := lockMismatch s }

/-- The position lock at enumeration: a mismatch sets its flag and is reported (R182, Table 18-1, Table 18-4). -/
def enumLock : Prog :=
  .seq evalLock (.look fun s =>
    let data := place s.link.addr.toNat 13 8 ||| place (s.fld Reg.rlLock 5 0) 5 0
    Prog.when s.link.lockBad (Prog.all [setFlag .positionMismatch, raise 0x0304 2 data, sendEvent 0x0104 data]))

/-- FLAGS of an ENUM reply (Table 4-6). -/
def enumFlags (s : State) : Nat := fromBits [s.link.lockBad, s.link.dnPort.up]

/-- An ENUM payload (Table 4-6). -/
def enumPayload (kind num flags product ns : Nat) (serial : BitVec 64) : List Byte :=
  leBytes 1 kind ++ leBytes 1 num ++ leBytes 1 flags ++ leBytes 1 product ++ leBytes 2 ns ++ [0, 0] ++ leBytes 8 serial.toNat

/-- PRODUCT of SYS_ID (Table 0-7). -/
def State.product (s : State) : Nat := if s.fuse.isV64 then 1 else 2

/-- Send an offer on DN, or keep it while the DN link is not up (R174, R175, R176). -/
def sendOffer (next base : Nat) : Prog :=
  .look fun s =>
    if s.link.dnPort.up then
      .seq (modLink fun l => { l with dnWait := none }) (sendOwn .dn 4 0 0 0 (enumPayload 0 next 0 0 base 0))
    else modLink fun l => { l with dnWait := some (next, base) }

/-- Send an ENUM reply, END or OVERFLOW to address 1 (R175 to R177). -/
def sendEnum (kind : Nat) : Prog :=
  .look fun s =>
    sendOwn .up 4 1 0 0 (enumPayload kind s.link.addr.toNat (enumFlags s) s.product (s.fld Reg.tickHopDly 15 0) s.fuse.serial)

/-- A port's link is gone: its replay buffer and its receive buffers are flushed, and so are the frames that wait on it (R168). -/
def closePort (p : Port) (disabled : Bool) : Prog :=
  .look fun s => Prog.all [
    modPort p fun q => { PortSt.reset with disabled := disabled, sent := q.sent, txRd0 := q.txRd0, txRd1 := q.txRd1 },
    Prog.each (s.port p).waiting releaseHeld,
    modPort p.opposite fun q => { q with waiting := q.waiting.filter fun f => f.holds != some p },
    modLink fun l => { l with halves := l.halves.filter fun h => h.port != p },
    modXe fun x => { x with pairs := x.pairs.filter fun r => r.port != p || r.units == 0 }]

/-- A member takes an offer (R175, R177, R180). -/
def takeOffer (next base : Nat) : Prog :=
  .look fun s =>
    let d := base + s.fld Reg.rlLinkDly 15 0
    if s.isHead then .skip
    else if next = 33 then Prog.all [
      modLink fun l => { l with addr := 0, dnWait := none }, setFlag .enumOverflow, raise 0x0305 2 0, sendEnum 3, closePort .dn true]
    else if next ≤ 32 then Prog.all [
      setFlagIf (s.link.addr != 0 && decide (s.link.addr.toNat ≠ next)) .addrChanged,
      modLink fun l => { l with addr := BitVec.ofNat 6 next },
      setFld Reg.tickHopDly 15 0 d, enumLock, sendEnum 1, setRowUp, sendOffer (next + 1) (d + 80)]
    else .skip

/-- The head's own row of the row table: D is 0 (Table 5-4). -/
def headRow (s : State) : EnumRow :=
  { addr := 1, product := BitVec.ofNat 8 s.product, flags := BitVec.ofNat 8 (enumFlags s), ns := 0 }

/-- Payload of the ENUMERATE reply (Table 5-4). -/
def enumTable (s : State) : List Byte :=
  leBytes 1 s.link.rowLen ++ [(if s.link.overflow then 1 else 0 : Byte), 0, 0] ++
    ((List.range s.link.rowLen).flatMap fun i =>
      match (headRow s :: s.link.enumRows).find? fun r => r.addr == i + 1 with
      | some r => [r.product, r.flags] ++ leBytes 2 r.ns
      | none => [0, 0, 0, 0])

/-- Enumeration ends: ROW_UP is set and a waiting ENUMERATE replies (R174, R178). -/
def endEnum : Prog :=
  .look fun s => Prog.when s.link.enumBusy (Prog.all [
    modLink fun l => { l with enumBusy := false, dnWait := none, enumReqs := [] },
    setRowUp,
    Prog.each s.link.enumReqs fun r => .look fun t => complete r 0x03 St.ok (enumTable t)])

/-- The head starts enumeration (R173, R174). Every ENUMERATE that waits is answered at its end. -/
def startEnum (reqs : List Req) : Prog :=
  Prog.all [
    modLink fun l => { l with
      addr := 1, enumBusy := true, enumRows := [], overflow := false, enumReqs := l.enumReqs ++ reqs, dnWait := none },
    setRowLen 1, enumLock, sendOffer 2 0]

/-- An ENUM reply reaches the head (R178, R179). -/
def headEnumReply (pl : List Byte) : Prog :=
  .look fun s =>
    let a := field pl 1 1
    Prog.when s.isHead (Prog.all [
      modLink fun l => { l with
        enumRows := (l.enumRows.filter fun r => r.addr != a) ++
          [{ addr := a, product := BitVec.ofNat 8 (field pl 3 1), flags := BitVec.ofNat 8 (field pl 2 1), ns := field pl 4 2 }] },
      Prog.when (decide (s.link.rowLen < a)) (setRowLen a),
      setFlagIf (!s.link.enumBusy) .rowChange])

/-- An END or OVERFLOW reply reaches the head (R178, R179). -/
def headEnumEnd (full : Bool) : Prog :=
  .look fun s => Prog.when (s.isHead && s.link.enumBusy)
    (.seq (modLink fun l => { l with overflow := l.overflow || full }) endEnum)

/-- A link comes up: SEQ 0 at both ends, an initial CREDIT for each class, PROBE sets on a member's UP port, and the offer
that a DN link waits for (R167, R172, R174, R176, R181). DESIGN CHOICE, log entry 100: a member's DN link that comes up within DN_WAIT
meets R176 and R181 both, and only the offer of R176 follows. -/
def linkUp (p : Port) : Prog :=
  Prog.all [
    modPort p fun q => { PortSt.reset with
      up := true, peerAddr := q.peerAddr, peerProduct := q.peerProduct, waiting := q.waiting, sent := q.sent, txRd0 := q.txRd0,
      txRd1 := q.txRd1, rxRd0 := q.rxRd0, rxRd1 := q.rxRd1 },
    sendCredit p false, sendCredit p true,
    match p with
    | .up => .seq (modLink fun l => { l with echoes := [] })
        (Prog.each (List.range 16) fun i => sendOset .up 0x40 [BitVec.ofNat 8 i, 0, 0, 0, 0])
    | .dn => .look fun s =>
        match s.link.dnWait with
        | some (n, b) => sendOffer n b
        | none =>
          Prog.when (s.link.rowUp && s.flag Reg.rlCtrl 8 && s.link.addr != 0)
            (.seq (sendOffer (s.link.addr.toNat + 1) (if s.isHead then 0 else s.fld Reg.tickHopDly 15 0 + 80))
              (sendEvent 0x0102 (place s.link.addr.toNat 31 0)))]

/-- Whether a port takes part in the row: not disabled, and not the head's UP port (R27, R105, R177). -/
def State.portUsed (s : State) (p : Port) : Bool := s.repeats && !(s.port p).disabled && !(s.isHead && p == .up)

/-- Whether a port has met the conditions of R165 and R166 for its link to come up. -/
def PortSt.trained (q : PortSt) : Bool :=
  decide (q.train0 = 16) && decide (q.train1 = 16) && q.trainTx == some 16 && decide (q.skew ≤ 16)

/-- A port that has trained brings its link up (R165 to R167). -/
def bringUp (p : Port) : Prog :=
  .look fun s => Prog.when (s.portUsed p && !(s.port p).up && (s.port p).trained) (linkUp p)

/-- A lane received a valid TRAIN set (R165): the sets sent since the first one received are counted from here. -/
def takeTrain (p : Port) (lane : TrainLane) (addr : BitVec 6) (product : Byte) (s : State) : Prog :=
  Prog.when (s.portUsed p && !(s.port p).up)
    (.seq (modPort p fun q => { q with
        train0 := if lane.lane1 then q.train0 else min 16 (q.train0 + 1)
        train1 := if lane.lane1 then min 16 (q.train1 + 1) else q.train1
        trainTx := some (q.trainTx.getD 0), skew := lane.skew, peerAddr := addr, peerProduct := product })
      (bringUp p))

/-- TRAIN (R165 to R167, R181). -/
def execTrain (p : Port) (lane : TrainLane) (addr : BitVec 6) (product : Byte) (s : State) : Host.Outcome State Fault Refusal :=
  Prog.next (takeTrain p lane addr product s) s

/-- A lane's run of TRAIN sets after something else has come; a run of 16 stays (R165). -/
def brokenRun (n : Nat) : Nat := if n = 16 then 16 else 0

/-- An ordered set other than TRAIN and SKP reaches a port whose link is not up: the runs of both lanes break (R165). -/
def breakRuns (p : Port) : Prog :=
  modPort p fun q => if q.up then q else { q with train0 := brokenRun q.train0, train1 := brokenRun q.train1 }

/-- ACK (R152): the named frame and every earlier one leave the replay buffer, also where the named one has been abandoned. -/
def takeAck (p : Port) (seq : Byte) (s : State) : Prog :=
  Prog.when (seqReaches seq ((s.port p).txSeq - 1))
    (modPort p fun q => { q with replay := q.replay.filter fun f => !seqReaches f.seq seq })

/-- ACK (R152). -/
def execAck (p : Port) (seq : Byte) (s : State) : Host.Outcome State Fault Refusal := Prog.next (.seq (breakRuns p) (takeAck p seq s)) s

/-- NAK (R154): the named frame and every later one are sent again, whatever the reason. -/
def takeNak (p : Port) (seq : Byte) (s : State) : Prog := Prog.when (seqReaches seq ((s.port p).txSeq - 1)) (resendFrom p seq)

/-- NAK (R154). -/
def execNak (p : Port) (seq _reason : Byte) (s : State) : Host.Outcome State Fault Refusal := Prog.next (.seq (breakRuns p) (takeNak p seq s)) s

/-- SEQSYNC (R156): the receiver adopts the SEQ. -/
def takeSeqsync (p : Port) (next : Byte) (s : State) : Prog :=
  Prog.when (s.port p).up (modPort p fun q => { q with rxExp := next })

/-- SEQSYNC (R156). -/
def execSeqsync (p : Port) (next _count : Byte) (s : State) : Host.Outcome State Fault Refusal := Prog.next (.seq (breakRuns p) (takeSeqsync p next s)) s

/-- CREDIT (R163): the released count of a class. -/
def takeCredit (p : Port) (class1 : Bool) (released : BitVec 16) (s : State) : Prog :=
  Prog.when (s.port p).up (modPort p fun q => if class1 then { q with txRel1 := released } else { q with txRel0 := released })

/-- CREDIT (R163). -/
def execCredit (p : Port) (class1 : Bool) (released : BitVec 16) (s : State) : Host.Outcome State Fault Refusal :=
  Prog.next (.seq (breakRuns p) (takeCredit p class1 released s)) s

/-- PROBE (R172): the upstream node answers on its DN port. -/
def takeProbe (p : Port) (index : Byte) : Prog :=
  match p with
  | .dn => sendOset .dn 0x41 [index, 0, 0, 0, 0]
  | .up => .skip

/-- PROBE (R172). -/
def execProbe (p : Port) (index : Byte) (s : State) : Host.Outcome State Fault Refusal := Prog.next (.seq (breakRuns p) (takeProbe p index)) s

/-- Link delay from sixteen round trips in 125 ps: round((mean - 64.0) / 2) ns (R172). -/
def linkDelay (trips : List Nat) : Nat := roundDiv (trips.sum - 8192) 256

/-- ECHO (R172): the sixteenth round trip gives RL_LINK_DLY. DESIGN CHOICE, log entry 98: until sixteen have come, as where an ECHO
is lost, L keeps its value. -/
def takeEcho (roundTrip : Nat) (s : State) : Prog :=
  Prog.when (s.link.upPort.up && decide (s.link.echoes.length < 16))
    (.seq (modLink fun l => { l with echoes := l.echoes ++ [roundTrip] })
      (.look fun t => Prog.when (decide (t.link.echoes.length = 16)) (setFld Reg.rlLinkDly 15 0 (linkDelay t.link.echoes))))

/-- ECHO (R172). -/
def execEcho (_index : Byte) (roundTrip : Nat) (s : State) : Host.Outcome State Fault Refusal := Prog.next (.seq (breakRuns .up) (takeEcho roundTrip s)) s

/-- SKP (R138, R139): consumed, with no effect beyond the elastic buffer. -/
def execSkp (_p : Port) (s : State) : Host.Outcome State Fault Refusal := Prog.next .skip s

/-- UNKNOWN_ORDERED_SET (R134): ignored and counted. -/
def execUnknownOrderedSet (p : Port) (_type : Byte) (s : State) : Host.Outcome State Fault Refusal :=
  Prog.next (.seq (breakRuns p) (Prog.when (s.portUsed p) (addSat Reg.rlOsCnt 31 0 1))) s

/-- HALT_SET (R192, R234, R638): a new set is repeated on the other port and taken. -/
def takeHalt (p : Port) (src : BitVec 6) (release : Bool) (mask : BitVec 4) (hseq : Byte) (s : State) : Prog :=
  let old := s.link.hseqRx.any fun e => e.1 == src && e.2.1 == hseq && decide (s.now - e.2.2 ≤ 100000)
  let other := src != s.link.addr
  let bitNo := src.toNat - 1
  Prog.when ((s.port p).up && !old) (Prog.all [
    modLink fun l => { l with hseqRx := (l.hseqRx.filter fun e => e.1 != src) ++ [(src, hseq, s.now)] },
    sendOset p.opposite 0x21 [src.setWidth 8, if release then 1 else 0, mask.setWidth 8, hseq, 0],
    Prog.when other (.reg Reg.rfxLast
      (place src.toNat 29 24 ||| placeBit release 16 ||| place mask.toNat 11 8 ||| place hseq.toNat 7 0)),
    Prog.when (other && !release) (Prog.all [
      setFlag .haltRx,
      setFlagIf s.isHead .irqHalt,
      Prog.when (s.flag Reg.rfxCtrl 0 && src != 0) (setFld Reg.rfxEchoSrc bitNo bitNo 1)]),
    Prog.when (other && release && src != 0) (setFld Reg.rfxEchoSrc bitNo bitNo 0)])

/-- HALT_SET (R192, R638). -/
def execHaltSet (p : Port) (src : BitVec 6) (release : Bool) (mask : BitVec 4) (hseq : Byte) (s : State) :
    Host.Outcome State Fault Refusal := Prog.next (.seq (breakRuns p) (takeHalt p src release mask hseq s)) s

/-- An offer reaches a member, which takes its address from its UP port only (R28, R175, R177, R180). -/
def receiveOffer (p : Port) (f : RxFrame) : Prog :=
  receiveFrame p 4 f (Prog.when (p == .up) (takeOffer (field f.payload 1 1) (field f.payload 4 2)))

/-- ENUM_OFFER (R175, R177, R180). -/
def execEnumOffer (p : Port) (f : RxFrame) (s : State) : Host.Outcome State Fault Refusal :=
  Prog.next (receiveOffer p f) s

/-- ENUM_REPLY (R178, R179). -/
def execEnumReply (p : Port) (f : RxFrame) (s : State) : Host.Outcome State Fault Refusal :=
  Prog.next (receiveFrame p 4 f (headEnumReply f.payload)) s

/-- END_REPLY (R178, R179). -/
def execEndReply (p : Port) (f : RxFrame) (s : State) : Host.Outcome State Fault Refusal :=
  Prog.next (receiveFrame p 4 f (headEnumEnd false)) s

/-- OVERFLOW_REPLY (R178, R179). -/
def execOverflowReply (p : Port) (f : RxFrame) (s : State) : Host.Outcome State Fault Refusal :=
  Prog.next (receiveFrame p 4 f (headEnumEnd true)) s

/-- STORED_FRAME_FORWARD (R149): the first waiting frame leaves, but a token frame whose WIN has passed is abandoned (R155). -/
def execStoredFrameForward (p : Port) (s : State) : Host.Outcome State Fault Refusal :=
  Prog.next (match (s.port p).waiting with
    | [] => .skip
    | f :: rest =>
      if spent s f then .seq (modPort p fun q => { q with waiting := rest }) (sendInTime p f) else sendWaiting p) s

/-- ACK_TIMEOUT (R154): the oldest frame that nothing has covered, and every later one, are sent again. -/
def execAckTimeout (p : Port) (s : State) : Host.Outcome State Fault Refusal :=
  Prog.next (match (s.port p).replay with
    | [] => .skip
    | f :: _ => resendFrom p f.seq) s

/-- WIN_EXPIRY (R155, R156): token frames whose WIN has passed are abandoned. DESIGN CHOICE, log entry 55: the SEQSYNC names the frame that
follows the last gap, or the next new one, also while earlier frames still wait for their acknowledgement. -/
def execWinExpiry (p : Port) (s : State) : Host.Outcome State Fault Refusal :=
  let past := fun f : TxFrame => creditClass1 f.typ && winPassed s f.win
  let q := s.port p
  let gone := q.replay.filter past
  let late := q.waiting.filter past
  let kept := q.replay.filter fun f => !past f
  let next := ((q.replay.dropWhile fun f => !past f).find? fun f => !past f).map fun f => f.seq
  Prog.next (Prog.all [
    modPort p fun q => { q with replay := kept, waiting := q.waiting.filter fun f => !past f },
    Prog.each late releaseHeld,
    Prog.when (!(gone ++ late).isEmpty) (sendSeqsync p (next.getD q.txSeq) (gone ++ late).length),
    giveup (gone ++ late)]) s

/-- A port's link goes down (R168 to R170): it flushes its replay buffer and its receive buffers and returns to TRAIN. -/
def linkDown (p : Port) : Prog :=
  .look fun s =>
  let data := place s.link.addr.toNat 31 0
  Prog.when (s.port p).up (Prog.all [
    closePort p (s.port p).disabled,
    match p with
    | .up => Prog.when (!s.isHead) (.seq (setFlag .upDown) (raise 0x0302 2 data))
    | .dn => Prog.when s.link.rowUp (Prog.all [setFlag .dnDown, raise 0x0301 3 data, sendEvent 0x0101 data])])

/-- LINK_DOWN (R168 to R170). -/
def execLinkDown (p : Port) (s : State) : Host.Outcome State Fault Refusal := Prog.next (linkDown p) s

/-- What a reception leaves at its port: the running disparities, and its symbol errors, sixteen of which within 1 µs take the link down
(R131, R168). -/
def noteHeard (p : Port) (l : Lanes) (n : Nat) : Prog :=
  .seq (.look fun s => modPort p fun q =>
      { q.listened l with errs := (q.errs.filter fun t => decide (s.now - t ≤ 1000)) ++ List.replicate n s.now })
    (.look fun s => Prog.when (decide (16 ≤ (s.port p).errs.length)) (linkDown p))

/-- DN_WAIT_EXPIRY (R174, R176). -/
def execDnWaitExpiry (s : State) : Host.Outcome State Fault Refusal :=
  Prog.next (Prog.when (s.link.dnWait.isSome && !s.link.dnPort.up)
    (if s.isHead then endEnum else .seq (modLink fun l => { l with dnWait := none }) (sendEnum 2))) s

/-- ENUM_END_TIMEOUT (R178). DESIGN CHOICE, log entry 99: it also ends an enumeration in which no reply has come. -/
def execEnumEndTimeout (s : State) : Host.Outcome State Fault Refusal := Prog.next (Prog.when s.isHead endEnum) s

/-- CREDIT_REFRESH (R162). -/
def execCreditRefresh (p : Port) (s : State) : Host.Outcome State Fault Refusal :=
  Prog.next (.seq (sendCredit p false) (sendCredit p true)) s

/-- SKP_INTERVAL (R137): each transmitter that runs sends a SKP set, also while its port trains. -/
def execSkpInterval (p : Port) (s : State) : Host.Outcome State Fault Refusal :=
  Prog.next (Prog.when (s.portUsed p) (modPort p fun q => { q with osets := insertOset OSet.skp q.osets })) s

/-- A cycle of the I/O clock at a port: its disparities follow what it sent, and the set at the front of its queue goes onto its lanes,
or a TRAIN set while its link is not up (R128, R132, R165). -/
def portCycle (s : State) (p : Port) (q : PortSt) : PortSt :=
  let trains := s.portUsed p && !q.up && q.osets.isEmpty
  { q with
    txRd0 := laneDisparity q.txRd0 q.lanes.lane0, txRd1 := laneDisparity q.txRd1 q.lanes.lane1
    sent := if trains then [.set ⟨0x10, [0, s.link.addr.setWidth 8, BitVec.ofNat 8 s.product, 0, 0]⟩] else (q.osets.head?.map WireItem.set).toList
    osets := q.osets.tail
    trainTx := if trains then q.trainTx.map fun n => min 16 (n + 1) else q.trainTx }

/-- A push-pull output, or one that is not driven. -/
def pushPull : Option Bool → Pad
  | none => .released
  | some b => if b then .high else .low

/-- Drive current of a ball's push-pull output group in mA (R714, Table 19-16); none where PM_DRIVE names no group of the ball. The low of an
open-drain GPIO has it too. -/
def State.driveMa (s : State) (b : Ball) : Option Nat :=
  let code := match b with
    | .hpSio => some (s.fld Reg.pmDrive 1 0)
    | .gpio _ => some (s.fld Reg.pmDrive 5 4)
    | .strobe => some (s.fld Reg.pmDrive 9 8)
    | .tickOut => some (s.fld Reg.pmDrive 13 12)
    | _ => none
  code.map fun c => 4 * (c + 1)

/-- What the node puts on a ball (R655, R656, R662, R673). Its lanes are in electrical idle while their port takes no part in the row,
HP_SIO is high-impedance between transactions (R204), and no command reaches the TAP (log entry 106). -/
def State.pad (s : State) : Ball → Pad
  | .upTx => if s.portUsed .up then .symbols else .released
  | .dnTx => if s.portUsed .dn then .symbols else .released
  | .hpSio => .released
  | .irqN => if s.irqLow then .low else .released
  | .tdo => .released
  | .tickOut => if s.tick.tickOut then .high else .low
  | .strobe => match s.handHold 24 with
    | some (some b) => .kept b
    | some none => .released
    | none => pushPull (strobeBall s)
  | .haltN => if s.drivesHalt then .low else .released
  | .gpio n => match s.handHold n with
    | some (some b) => .kept b
    | some none => .released
    | none => if s.flag (Reg.pmGpioCfg0 + 4 * n) 4 && s.gpioDrive n == some true then .released else pushPull (s.gpioDrive n)

/-- A cycle of the I/O clock on the Row Link. -/
def linkCycle : Prog :=
  .seq (.look fun s => modLink fun l => { l with upPort := portCycle s .up l.upPort, dnPort := portCycle s .dn l.dnPort })
    (.seq (bringUp .up) (bringUp .dn))

end Sys2Proof.Machine
end

