-- ==== Sys2Proof/Machine/Reflex.lean ====
section
/-! DEFINITION. The cliff reflex (chapter 16): comparators, trips, the latch and its release. -/

namespace Sys2Proof.Machine

/-- TRIP flag of a comparator. -/
def tripFlag (n : Nat) : Flag := if n = 0 then .trip0 else if n = 1 then .trip1 else if n = 2 then .trip2 else .trip3

/-- The comparators of a mask, in order. -/
def cmpsOf (mask : BitVec 4) : List Nat := (List.range 4).filter fun n => mask.getLsbD n

/-- LATCH takes a new value: HALT sets follow a change (R636). -/
def setLatch (v : BitVec 4) : Prog :=
  .look fun s => Prog.when (s.rfx.latch != v) (.seq (modRfx fun r => { r with latch := v }) sendHalt)

/-- New latches (R634): LATCHED, a HALT_LATCH record, and the HALT cause of IRQ_N. -/
def latchTrips (mask : BitVec 4) : Prog :=
  .look fun s =>
    let fresh := mask &&& ~~~s.rfx.latch
    Prog.when (fresh != 0) (Prog.all [
      Prog.each (cmpsOf fresh) fun _ => setFlag .latched,
      setLatch (s.rfx.latch ||| mask),
      raise 0x0C01 0 (place (s.rfx.latch ||| mask).toNat 3 0),
      setFlag .irqHalt])

/-- A release of latches begins; the note serves a trip of the same cycle (R641). -/
def noteRelease (reply : Option (Byte × BitVec 4)) : Prog :=
  .look fun s => .note fun y =>
    let n := y.release.getD { latch := s.rfx.latch, fhalt := s.rfx.fhalt, hseq := s.link.hseqTx, replies := [] }
    { y with release := some { n with replies := n.replies ++ reply.toList } }

/-- A HALT set of this node whose HSEQ lies in (h, h + n]. -/
def haltSince (s : State) (h n : Byte) (o : OSet) : Bool :=
  let d := o.data.getD 3 0 - h
  o.typ == 0x21 && o.data.getD 0 0 == s.link.addr.setWidth 8 && d != 0 && decide (d ≤ n)

/-- The reply to a HALT_RELEASE of the present cycle takes another STILL, where it is queued, remembered and on its way. -/
def editStill (tag : Byte) (old new : BitVec 4) : Prog :=
  .look fun s =>
    let bytes := fun still : BitVec 4 => replyPacket s.link.addr.toNat 0x22 tag St.ok [still.setWidth 8, 0, 0, 0]
    let edit := fun b : List Byte => if b = bytes old then bytes new else b
    let frame := fun f : TxFrame => if f.payload = padEven (bytes old) then { f with payload := padEven (bytes new) } else f
    .seq (modHp fun h => { h with
        queue := h.queue.map fun q => { q with bytes := edit q.bytes }
        winHost := h.winHost.map fun e => { e with reply := e.reply.map edit }
        winRow := h.winRow.map fun e => { e with reply := e.reply.map edit } })
      (modPort .up fun q => { q with
        waiting := q.waiting.map frame
        replay := q.replay.map frame
        sent := q.sent.map fun w => match w with
          | .frame f => .frame (frame f)
          | w => w })

/-- A trip in the cycle of a release keeps the latch set (R641): the release has not cleared it, so its HALT sets, which still wait, are those of what has
changed, and STILL shows it. -/
def keepLatches (mask : BitVec 4) : Prog :=
  .look fun s =>
    match s.cycle.release with
    | none => .skip
    | some n =>
      let kept := n.latch &&& mask &&& ~~~s.rfx.latch
      let old := haltSince s n.hseq (s.link.hseqTx - n.hseq)
      let drop := fun q : PortSt => { q with
        osets := q.osets.filter fun o => !old o
        sent := q.sent.filter fun w => match w with
          | .set o => !old o
          | _ => true }
      Prog.when (kept != 0) (Prog.all [
        modRfx fun r => { r with latch := r.latch ||| kept },
        modLink fun l => { l with hseqTx := n.hseq, upPort := drop l.upPort, dnPort := drop l.dnPort },
        Prog.when (s.rfx.latch ||| kept != n.latch || s.rfx.fhalt != n.fhalt) sendHalt,
        Prog.each n.replies fun x => editStill x.1 x.2 (x.2 ||| kept),
        .note fun y => { y with release := some { n with replies := n.replies.map fun x => (x.1, x.2 ||| kept) } }])

/-- Comparators trip at one instant: TRIP flags, CMP_TRIP events, one injected trigger per converter, latches (R602, R605,
R633, R634, R641). -/
def trips (mask : BitVec 4) : Prog :=
  .look fun s =>
    let halting := (cmpsOf mask).foldl (fun m n => if s.flag (cmpCtrl n) 29 then m ||| (1#4 <<< n) else m) 0#4
    Prog.when (mask != 0) (Prog.all [
      Prog.each (cmpsOf mask) fun n => setFlag (tripFlag n),
      keepLatches mask,
      latchTrips halting,
      comparatorTrigger mask.toNat,
      Prog.each (cmpsOf mask) fun n => Prog.when (s.flag (cmpCtrl n) 28) (sendEvent 0x0401 (place n 1 0))])

/-- Load the filtered state of comparators from their raw outputs; a tripped one is a trip (R631). -/
def loadFiltered (mask : BitVec 4) : Prog :=
  .look fun s =>
    .seq (modRfx fun r => { r with filt := (r.filt &&& ~~~mask) ||| (r.raw &&& mask) }) (trips (s.rfx.raw &&& mask))

/-- A filtered state becomes its raw state (R630). -/
def filterExpiry (n : Nat) : Prog :=
  .look fun s =>
    let m := 1#4 <<< n
    Prog.when (s.cmpRuns n && (s.rfx.raw &&& m) != (s.rfx.filt &&& m)) (loadFiltered m)

/-- CMP_RAW_CHANGE (R629): what the surroundings connect to AINn moves a raw output; the filter decides later. -/
def execCmpRawChange (n : Fin 4) (src : Source) (s : State) : Host.Outcome State Fault Refusal :=
  Prog.next (.seq (modPins fun p => { p with ain := p.ain.set n.val src }) judgeRaw) s

/-- Comparators that have begun to run since an earlier state load their filtered state (R631). One whose pin turns analogue begins
when its switch closes (R256): log entry 22. -/
def startCmps (s : State) : Prog :=
  .seq judgeRaw (.look fun t => loadFiltered (mask4 fun n => t.cmpRuns n && !s.cmpRuns n))

/-- CMP_FILTER_EXPIRY (R630, R633, R634). -/
def execCmpFilterExpiry (n : Fin 4) (s : State) : Host.Outcome State Fault Refusal := Prog.next (filterExpiry n.val) s

/-- AUTO_RELEASE (R642): the latch of an untripped comparator with AUTO is cleared. -/
def execAutoRelease (n : Fin 4) (s : State) : Host.Outcome State Fault Refusal :=
  Prog.next (Prog.when (s.flag (cmpCtrl n.val) 26 && !s.rfx.filt.getLsbD n.val && s.rfx.latch.getLsbD n.val)
    (.seq (noteRelease none) (setLatch (s.rfx.latch &&& ~~~(1#4 <<< n.val))))) s

/-- LATCH after a HALT_RELEASE with a mask (R640). -/
def latchAfter (s : State) (mask : Nat) : BitVec 4 :=
  (List.range 4).foldl (fun l n =>
    if mask.testBit n && (!s.rfx.filt.getLsbD n || !s.flag (cmpCtrl n) 31) then l &&& ~~~(1#4 <<< n) else l) s.rfx.latch

/-- HALT_RELEASE clears latches, FHALT and every echo hold (R639, R640, R698); one HALT set follows a change (R636, R697). -/
def haltReleaseEffect (mask : Nat) : Prog :=
  .look fun s => .seq (.reg Reg.rfxEchoSrc 0)
    (Prog.when (s.rfx.latch != latchAfter s mask || s.rfx.fhalt)
      (.seq (modRfx fun r => { r with latch := latchAfter s mask, fhalt := false }) sendHalt))

/-- HALT_RELEASE (R639, R640, R698). -/
def opHaltRelease (s : State) (r : Req) : Answer :=
  let mask := field r.payload 0 1
  if r.payload.length ≠ 4 ∨ !zeroAt r.payload 1 3 ∨ 15 < mask then .just St.badParam
  else .now St.ok [(latchAfter s mask).setWidth 8, 0, 0, 0] (.seq (noteRelease (some (r.tag, latchAfter s mask))) (haltReleaseEffect mask))

/-- HALT_RELEASE (R640). -/
def execHaltRelease (r : Req) (s : State) : Host.Outcome State Fault Refusal := Prog.next (serve 0x22 opHaltRelease r) s

end Sys2Proof.Machine
end

