-- ==== Sys2Proof/Machine/Commit.lean ====
section
/-! DEFINITION. Staging, commit and stored settings (chapter 6): what happens when a set becomes live, with the pin hand-overs of
chapter 17, the opcodes of the staging bank, and the settings copies. -/

namespace Sys2Proof.Machine

/-- Registers whose words differ between two states. -/
def changedAmong (s t : State) (l : List Nat) : List Nat := l.filter fun a => s.stored a != t.stored a

/-- Whether any of some registers differs between two states. -/
def anyChanged (s t : State) (l : List Nat) : Bool := l.any fun a => s.stored a != t.stored a

/-- The level that a keeper holds in a hand-over (Table 17-3). -/
def safeHold (safe : Nat) (last : Bool) : Option Bool :=
  if safe = 0 then some last else if safe = 1 then some false else if safe = 2 then some true else none

/-- Whether a GPIO ball passes through a hand-over (R669): FUNC changes, or OD under an output function. -/
def gpioSwitches (old new : Word) : Bool :=
  bits old 3 0 != bits new 3 0 || (bit old 4 != bit new 4 && decide (1 ≤ bits new 3 0) && decide (bits new 3 0 ≤ 7))

/-- The hand-overs of a commit from its state before to its state after (R254, R669 to R672). STROBE's last level
while the node does not drive it is that of the board's pull (R656; log entry 116). -/
def handOvers (s t : State) : List HandOver :=
  ((List.range 8).filter fun n => gpioSwitches (s.stored (Reg.pmGpioCfg0 + 4 * n)) (t.stored (Reg.pmGpioCfg0 + 4 * n))).map (fun n =>
      { ball := n, hold := safeHold (t.fld (Reg.pmGpioCfg0 + 4 * n) 13 12) (s.gpioLevel n) }) ++
    ((List.range 16).filter fun n => s.flag Reg.pmAinMode n != t.flag Reg.pmAinMode n).map (fun n =>
      { ball := 8 + n, hold := some (s.ainLevel n) }) ++
    (if strobeDriven s != strobeDriven t then [{ ball := 24, hold := some ((strobeBall s).getD Config.strobePull) }] else [])

/-- A commit moves the level of a ball that passes through no hand-over: a new PULL acts at the commit instant (R670). An edge that
comes of it is detected, but none from the level at which EDGE changes (R665, R675). -/
def commitPulls (s : State) : Prog :=
  .look fun t => Prog.each (List.range 8) fun n =>
    setFlagIf (s.gpioLevel n != t.gpioLevel n && t.edgeSelected n (t.gpioLevel n) &&
      s.fld (Reg.pmGpioCfg0 + 4 * n) 11 10 == t.fld (Reg.pmGpioCfg0 + 4 * n) 11 10 && (s.handHold n).isNone) (edgeFlag n)

/-- Start hand-overs; each is counted (R676). -/
def startHandOvers (l : List HandOver) : Prog :=
  .seq (modPins fun p => { p with hand := (p.hand.filter fun h => l.all fun x => x.ball != h.ball) ++ l })
    (addSat Reg.pmSwitchCnt 15 0 l.length)

/-- The registers of a converter that R625 names. -/
def convRegs (c : Conv) : List Nat :=
  [regCtrl c, Reg.adcASeq0 + convBase c, Reg.adcASeq0 + convBase c + 4, Reg.adcASeq0 + convBase c + 8, Reg.adcASeq0 + convBase c + 12,
   Reg.adcAScan + convBase c, Reg.adcATmr + convBase c, injCtrl c, Reg.adcAInjSeq + convBase c]

/-- A commit that changes a converter's sequence settings, or the cross settings, ends its sequences (R608, R625). -/
def commitConvs (s t : State) : Prog :=
  let cross := anyChanged s t [Reg.adcCross]
  .seq (Prog.each convs fun c => Prog.when (cross || anyChanged s t (convRegs c)) (.seq (endCross c) (stopConv c)))
    (Prog.when cross (modAdc fun x => { x with crossA := none, crossB := none }))

/-- A commit that clears REF_EN or changes REFSEL makes the reference fall (R591). -/
def commitRef (s t : State) : Prog :=
  Prog.when (anyChanged s t [Reg.adcRef] && (!t.flag Reg.adcRef 0 || bits (s.stored Reg.adcRef) 31 1 != bits (t.stored Reg.adcRef) 31 1))
    refFall

/-- A commit that moves the sample page leaves an empty live page at the new MV_BASE (R615, R618). DEDUCED, log entry 84. -/
def commitMover (s t : State) : Prog :=
  Prog.when (anyChanged s t [Reg.mvBase])
    (modAdc fun x => { x with live := 0, liveRefnr := false, liveFull := false, waiting := [], lastB := none })

/-- Collectors whose settings change start a new window (R440). -/
def commitColls (s t : State) : Prog :=
  Prog.each ((List.range 16).filter fun n => anyChanged s t [Reg.qsColCtrl0 + 4 * n, Reg.qsColAddr0 + 4 * n]) fun n =>
    modQs fun q => { q with coll := q.coll.set n Coll.reset }

/-- A commit that changes a scene-memory register empties the ring (R516). -/
def commitRing (s t : State) : Prog :=
  Prog.when (anyChanged s t smRegs)
    (modSm fun m => { m with fill := 0, newest := t.fld Reg.smCtrl 5 0 - 1, emptied := true })

/-- The judgements of a commit (R744, R183). -/
def commitJudge (s t : State) (boot : Bool) : Prog :=
  Prog.all [
    Prog.when (boot || anyChanged s t smRegs) judgeSm,
    Prog.when (boot || anyChanged s t resRegs) judgeRes,
    Prog.when (boot || anyChanged s t watchRegs) judgeWatch,
    Prog.when (anyChanged s t [Reg.rlLock, Reg.rlLockSerLo, Reg.rlLockSerHi]) evalLock]

/-- What new tick settings do to the source of edges (R46, R48): flywheeling is over on a head that no longer takes TICK_IN, and an edge
that a TICK set had announced is not taken in FREE_RUN. -/
def commitTick (s t : State) : Prog :=
  modTick fun k => { k with
    flywheel := k.flywheel && !t.freeRun && (!s.isHead || t.flag Reg.tickCtrl 2)
    announced := if t.freeRun then none else k.announced }

/-- What follows from the new words of a commit, given the state before. -/
def commitEffects (s : State) (boot : Bool) : Prog :=
  .look fun t => Prog.all [
    startHandOvers (handOvers s t), commitTick s t, commitConvs s t, commitMover s t, commitRef s t, startCmps s, commitPulls s, commitColls s t, commitRing s t,
    commitJudge s t boot]

/-- The pending set becomes live (R251, R253, R260). -/
def makeLive (edge : Word) (boot : Bool) : Prog :=
  .look fun s =>
    match s.stg.pend with
    | none => .skip
    | some p => Prog.all [
        Prog.each (p.regs.filter fun e => e.1 != Reg.stgUnlock) fun e => .reg e.1 (masked (s.stored e.1) (stagedMask e.1) e.2),
        .reg Reg.stgLastTick edge, modStg fun g => { g with pend := none }, setFlag .committed, commitEffects s boot]

/-- The touched shadows become the pending set (R245). -/
def freeze (tick : Word) (byAt : Bool) : Prog :=
  modStg fun g => { g with bank := [], pend := some { regs := g.bank, tick := tick, byAt := byAt } }

/-- FAIL of a check goes to STG_FAIL (R241). -/
def storeFail (mask : Nat) : Prog := .reg Reg.stgFail (place mask 31 0)

/-- The entries of a STAGE_WR payload: ADDR, MASK, VALUE. -/
def stageEntries (pl : List Byte) : List (Nat × Word × Word) :=
  (List.range (pl.length / 12)).map fun i =>
    (field pl (12 * i) 4, BitVec.ofNat 32 (field pl (12 * i + 4) 4), BitVec.ofNat 32 (field pl (12 * i + 8) 4))

/-- The first failure among entries (R217): ADDR before MASK. -/
def stageFailure : List (Nat × Word × Word) → Option Nat
  | [] => none
  | (a, mask, _) :: t =>
    if stagedMask a = 0 then some St.badAddr else if mask &&& ~~~stagedMask a ≠ 0 then some St.badParam else stageFailure t

/-- STAGE_WR (R216, R217, R236). -/
def opStageWr (_ : State) (r : Req) : Answer :=
  if r.payload = [] ∨ r.payload.length % 12 ≠ 0 ∨ 4092 < r.payload.length then .just St.badParam
  else
    match stageFailure (stageEntries r.payload) with
    | some st => .just st
    | none => .now St.ok [] (Prog.each (stageEntries r.payload) fun e => Prog.when (e.2.1 != 0) (stageMasked e.1 e.2.1 e.2.2))

/-- STAGE_WR (R216). -/
def execStageWr (r : Req) (s : State) : Host.Outcome State Fault Refusal := Prog.next (serve 0x10 opStageWr r) s

/-- CHECK (R241, R242). -/
def opCheck (s : State) (r : Req) : Answer :=
  if r.payload ≠ [] then .just St.badParam
  else if s.stg.bank.isEmpty then .just St.nothingStaged
  else .now (if failMask s = 0 then St.ok else St.checkFail) (leBytes 4 (failMask s)) (storeFail (failMask s))

/-- CHECK (R241). -/
def execCheck (r : Req) (s : State) : Host.Outcome State Fault Refusal := Prog.next (serve 0x11 opCheck r) s

/-- DISCARD (R257). -/
def opDiscard (s : State) (r : Req) : Answer :=
  if r.payload ≠ [] then .just St.badParam
  else if s.stg.bank.isEmpty && s.stg.pend.isNone then .just St.nothingStaged
  else .now St.ok [] (modStg fun g => { g with bank := [], pend := none })

/-- DISCARD (R257). -/
def execDiscard (r : Req) (s : State) : Host.Outcome State Fault Refusal := Prog.next (serve 0x13 opDiscard r) s

/-- The target copy of a STORE (R265): an invalid one, else the older; true for B. DESIGN CHOICE, log entry 105: of two invalid copies
the model takes A, since R265 says only "an invalid copy if there is one". -/
def storeToB (s : State) : Bool :=
  s.copyValid Mram.copyA && (!s.copyValid Mram.copyB || s.newestCopy == some Mram.copyA)

/-- SEQ of the next STORE (R265). -/
def storeSeq (s : State) : Word := (s.newestCopy.map fun c => s.copySeq c + 1).getD 1

/-- The snapshot of every staged-class register but STG_UNLOCK, in ascending ADDR (R264, R262). -/
def storeSnapshot (s : State) : List (Nat × Word) :=
  (stagedAddrs.filter fun a => a != Reg.stgUnlock).map fun a => (a, s.stored a &&& stagedMask a)

/-- Base of a settings copy. -/
def copyBase (toB : Bool) : Nat := if toB then Mram.copyB else Mram.copyA

/-- STORE (R264 to R268): the snapshot is taken and MAGIC of the target is set to 0. -/
def opStore (s : State) (r : Req) : Answer :=
  if s.stg.job.isSome then .just St.busy
  else if r.payload ≠ [] then .just St.badParam
  else .later (.seq
    (modStg fun g => { g with job := some { req := r, toB := storeToB s, seq := storeSeq s, entries := storeSnapshot s } })
    (store32 (copyBase (storeToB s)) 0))

/-- STORE (R264). -/
def execStore (r : Req) (s : State) : Host.Outcome State Fault Refusal := Prog.next (serve 0x14 opStore r) s

/-- The entries of a settings copy as bytes (Table 6-3). -/
def copyBody (l : List (Nat × Word)) : List Byte := l.flatMap fun e => leBytes 4 e.1 ++ wordBytes e.2

/-- A settings copy (Table 6-3). -/
def copyBytes (seq : Word) (l : List (Nat × Word)) : List Byte :=
  let head := wordBytes 0x54534B53 ++ wordBytes seq ++ leBytes 4 l.length
  head ++ wordBytes (crc32 (head ++ copyBody l)) ++ copyBody l

/-- STORE_COMPLETE (R265, R266). What a failed write leaves behind MAGIC is free (log entry 9). What
the copy's bytes behind its last entry hold after it no rule says: they stay (R273; DESIGN CHOICE, log entry 118). -/
def execStoreComplete (verified : Bool) (s : State) : Host.Outcome State Fault Refusal :=
  Prog.next (match s.stg.job with
    | none => .skip
    | some j =>
      .seq (modStg fun g => { g with job := none })
        (if verified then Prog.all [
          .mem (copyBase j.toB) (copyBytes j.seq j.entries), addSat Reg.nvmStoreCnt 31 0 1,
          complete j.req 0x14 St.ok (wordBytes j.seq)]
         else Prog.all [
          .mem (copyBase j.toB + 4) ((List.range (12 + 8 * j.entries.length)).map fun i => Config.freeByte (s.free + i)),
          Prog.times (12 + 8 * j.entries.length) .draw,
          setFlag .storeFail, raise 0x0502 2 (if j.toB then 1 else 0), complete j.req 0x14 St.nvmFail []])) s

/-- The recalled entries: each is staged whole, or skipped and counted (R269, R270). -/
def recallEntries (base : Nat) : Prog :=
  .look fun s => .seq (modStg fun g => { g with bank := [] })
    (Prog.each (s.copyEntries base) fun e =>
      if stagedMask e.1 = 0 ∨ e.1 = Reg.stgUnlock then setFlag .recallSkip else stageMasked e.1 (stagedMask e.1) e.2)

/-- RECALL (R269, R270). -/
def opRecall (s : State) (r : Req) : Answer :=
  if r.payload ≠ [] then .just St.badParam
  else
    match s.newestCopy with
    | none => .just St.nvmFail
    | some c => .now St.ok (wordBytes (s.copySeq c)) (recallEntries c)

/-- RECALL (R269). -/
def execRecall (r : Req) (s : State) : Host.Outcome State Fault Refusal := Prog.next (serve 0x15 opRecall r) s

/-- The first failing step of a load (Table 8-11): a status and its payload. -/
def loadFailure (s : State) (addr size : Nat) : Option (Nat × List Byte) :=
  let im := imageAt s addr size
  let bad := fun n : Nat => (St.badParam, leBytes 2 n ++ [(0 : Byte), 0])
  if !headerOk s addr size then some (bad 0xFFFF)
  else if !coresSuffice s im.minCores then some (St.denied, [])
  else
    match badEntry im (slotOk s im) with
    | some n => some (bad n)
    | none =>
      match badEntry im (entryOk s im (imageLayers s im)) with
      | some n => some (bad n)
      | none => if loadMask s im = 0 then none else some (St.checkFail, leBytes 4 (loadMask s im))

/-- The image becomes the active one (R345, R347, R287, R292, R744). -/
def takeImage (s : State) (im : Image) : Prog :=
  Prog.all [
    modEng fun e => { e with image := some im },
    .reg Reg.imgId (s.rd32 (im.addr + 8)), .reg Reg.imgAddr (BitVec.ofNat 32 im.addr), .reg Reg.imgSize (BitVec.ofNat 32 im.size),
    .reg Reg.imgInfo (place im.minCores 22 16 ||| place im.slots.length 9 0), .reg Reg.imgPmin (place im.pMin 31 0),
    Prog.each (List.range 4) fun g => .reg (Reg.enEst0 + 4 * g) (place (imageEst s im g) 23 0),
    .reg Reg.stgMapHash (mapHash s im), modEn fun e => { e with pinValid := false }, judgeRes]

/-- LOAD_IMAGE (Table 8-11, R121, R220, R345). A LEN other than 8 also answers with the payload of its BAD_PARAM, ENTRY 0xFFFF (R211,
Table 5-4; DEDUCED, log entry 101). -/
def opLoadImage (s : State) (r : Req) : Answer :=
  let addr := field r.payload 0 4
  let size := field r.payload 4 4
  let im := imageAt s addr size
  if s.pwr.level ≠ .run ∨ s.tick.sched ∨ s.link.lockBad then .just St.denied
  else if r.payload.length ≠ 8 then .now St.badParam (leBytes 2 0xFFFF ++ [0, 0]) .skip
  else
    match loadFailure s addr size with
    | some (st, pl) => .now st pl (Prog.when (st == St.checkFail) (storeFail (loadMask s im)))
    | none => .now St.ok
        (leBytes 4 im.pMin ++ leBytes 1 im.minCores ++ leBytes 1 im.ng ++ [0, 0] ++ wordBytes (s.rd32 (addr + 8)))
        (.seq (storeFail 0) (takeImage s im))

/-- LOAD_IMAGE (R345). -/
def execLoadImage (r : Req) (s : State) : Host.Outcome State Fault Refusal := Prog.next (serve 0x18 opLoadImage r) s

end Sys2Proof.Machine
end

