-- ==== Sys2Proof/Machine/Faults.lean ====
section
/-! DEFINITION. Fault records and the black box (chapter 18), and the counters' common clear. -/

namespace Sys2Proof.Machine

/-- The check byte that makes sixteen bytes sum to 0 modulo 256 (Table 18-2). -/
def recordCheck (bs : List Byte) : Byte := BitVec.ofNat 8 (256 - (bs.map BitVec.toNat).sum % 256)

/-- A fault record with a given number in its SEQ field (Table 18-2). -/
def recordBytes (r : FltRec) (seq : Nat) : List Byte :=
  let body := leBytes 2 r.code.toNat ++ leBytes 1 (r.sev * 64 + fromBits [false, false, false, r.level, r.halt, r.irq]) ++
    leBytes 1 (r.src % 64) ++ wordBytes r.tick ++ wordBytes r.data ++ leBytes 2 seq ++ leBytes 1 r.repeats
  body ++ [recordCheck body]

/-- Whether a SEQ is at or after INDEX (R691). -/
def seqFrom (index seq : Nat) : Bool := decide ((seq + 65536 - index) % 65536 < 32768)

/-- Whether FAULT_CLR with an INDEX keeps a record (R692). -/
def seqAfter (index seq : Nat) : Bool := seqFrom index seq && decide ((seq + 65536 - index) % 65536 ≠ 0)

/-- FAULT_RD (R691). -/
def opFaultRd (s : State) (r : Req) : Answer :=
  let index := field r.payload 0 2
  let count := field r.payload 2 2
  if r.payload.length ≠ 4 ∨ count = 0 ∨ 255 < count then .just St.badParam
  else
    let recs := (s.flt.log.filter fun x => decide (index = 0) || seqFrom index x.seq).take count
    .now St.ok (leBytes 2 s.flt.log.length ++ leBytes 2 recs.length ++ recs.flatMap fun x => recordBytes x x.seq) .skip

/-- FAULT_CLR (R692). -/
def opFaultClr (_s : State) (r : Req) : Answer :=
  let index := field r.payload 0 2
  if r.payload.length ≠ 4 ∨ !zeroAt r.payload 2 2 then .just St.badParam
  else .now St.ok [] (modFlt fun f => { f with log := if index = 0 then [] else f.log.filter fun x => seqAfter index x.seq })

/-- FAULT_RD (R691). -/
def execFaultRd (r : Req) (s : State) : Host.Outcome State Fault Refusal := Prog.next (serve 0x28 opFaultRd r) s

/-- FAULT_CLR (R692). -/
def execFaultClr (r : Req) (s : State) : Host.Outcome State Fault Refusal := Prog.next (serve 0x29 opFaultClr r) s

/-- FAULT_RECORD (R687): firmware, or the boot ROM in ROM-only service, writes the record of the oldest waiting condition. -/
def execFaultRecord (s : State) : Host.Outcome State Fault Refusal :=
  Prog.next (match s.flt.conds with
    | c :: rest => Prog.when (s.keeperUp || s.romOnly) (.seq (modFlt fun f => { f with conds := rest }) (writeRecord c))
    | [] => .skip) s

/-- Address of a black-box slot (R700). -/
def boxSlot (n : Nat) : Nat := Mram.blackBox + 16 * n

/-- A record as it stands when its copy is written (R701). -/
def State.recordNow (s : State) (r : FltRec) : FltRec := (s.flt.log.find? fun x => x.seq == r.seq && x.code == r.code).getD r

/-- One copy into slot NEXT with its read-back (R701, R703). What a failed write leaves in the slot is free (log entry 9). -/
def copyRecord (r : FltRec) (readBack : Bool) (onSuccess onFailure : Flt → Flt) : Prog :=
  .look fun s =>
    if readBack then
      .seq (.mem (boxSlot s.flt.bbNext) (recordBytes (s.recordNow r) s.flt.bbSeq))
        (modFlt fun f => onSuccess { f with bbNext := (f.bbNext + 1) % 4096, bbSeq := (f.bbSeq + 1) % 65536 })
    else Prog.all [
      .mem (boxSlot s.flt.bbNext) ((List.range 16).map fun i => Config.freeByte (s.free + i)),
      Prog.times 16 .draw, setFlag .bbFail, modFlt onFailure]

/-- The copy that would be written next (R703). -/
def nextCopy (f : Flt) : Option FltRec := if f.copies.isEmpty then none else f.failed.or f.copies.head?

/-- Bytes of a slot that read as invalid (R700): free ones, whose check byte is moved where they would read as valid. -/
def invalidSlot (bs : List Byte) : List Byte :=
  if field bs 0 2 ≠ 0 ∧ (bs.map BitVec.toNat).sum % 256 = 0 then bs.take 15 ++ [bs.getD 15 0 + 1] else bs

/-- Power is lost (R267, R704). A STORE that runs leaves its target complete, or invalid with MAGIC 0; otherwise a copy that is due may
have begun, and leaves its slot complete or invalid. Which of these it is is free (log entry 111). -/
def cutWrites : Prog :=
  .look fun s =>
    let free := fun n k => (List.range n).map fun i => Config.freeByte (s.free + k + i)
    match s.stg.job with
    | some j =>
      let n := 12 + 8 * j.entries.length
      .seq (if Config.freeBool s.free then .mem (copyBase j.toB) (copyBytes j.seq j.entries) else .mem (copyBase j.toB + 4) (free n 1))
        (Prog.times (n + 1) .draw)
    | none =>
      match nextCopy s.flt with
      | none => .skip
      | some r => .seq
          (Prog.when (s.keeperUp && Config.freeBool s.free) (.mem (boxSlot s.flt.bbNext)
            (if Config.freeBool (s.free + 1) then recordBytes (s.recordNow r) s.flt.bbSeq else invalidSlot (free 16 2))))
          (Prog.times 18 .draw)

/-- BLACK_BOX_COPY (R701, R703): a copy that failed is tried once more before the next one is written. No copy runs while a
STORE does. -/
def execBlackBoxCopy (readBack : Bool) (s : State) : Host.Outcome State Fault Refusal :=
  Prog.next (Prog.when (s.keeperUp && s.stg.job.isNone) (match s.flt.copies, s.flt.failed with
    | [], _ => .skip
    | _ :: _, some r => copyRecord r readBack (fun f => { f with failed := none }) (fun f => { f with failed := none })
    | r :: rest, none =>
      copyRecord r readBack (fun f => { f with copies := rest }) (fun f => { f with copies := rest, failed := some r }))) s

/-- CNT_CLR (R682). -/
def execCntClr (s : State) : Host.Outcome State Fault Refusal := Prog.next clearCounts s

/-- Read FLT_ROW: what it returns, and the clearing of its mask (R12, R696). -/
def execFltRowRead (s : State) : Host.Outcome State Fault Refusal := Prog.next (readEffect Reg.fltRow) s

/-- The black-box slots that R702 can call the newest: valid, and not followed by their successor. -/
def boxValid (s : State) (n : Nat) : Bool :=
  let bs := s.rdBytes (boxSlot n) 16
  decide (field bs 0 2 ≠ 0) && decide ((bs.map BitVec.toNat).sum % 256 = 0)

/-- BSEQ of a slot. -/
def boxSeq (s : State) (n : Nat) : Nat := s.rd16 (boxSlot n + 12)

/-- The slots whose following slot does not continue them (R702). -/
def boxCandidates (s : State) : List (Nat × Nat) :=
  let valid := (List.range 4096).filter (boxValid s)
  (valid.filter fun n => !(boxValid s ((n + 1) % 4096) && decide (boxSeq s ((n + 1) % 4096) = (boxSeq s n + 1) % 65536))).map
    fun n => (n, boxSeq s n)

/-- The newest copy among candidates: highest in serial order, lowest slot among equals; else the largest BSEQ (R702). -/
def newestBox (c : List (Nat × Nat)) : Option (Nat × Nat) :=
  let top := fun x : Nat × Nat => c.all fun t => !(decide (1 ≤ (t.2 + 65536 - x.2) % 65536) && decide ((t.2 + 65536 - x.2) % 65536 ≤ 32767))
  match c.find? top with
  | some x => some x
  | none => c.find? fun x => c.all fun t => decide (t.2 ≤ x.2)

/-- The boot scan sets NEXT and BSEQ (R702). -/
def scanBlackBox : Prog :=
  .look fun s => modFlt fun f =>
    match newestBox (boxCandidates s) with
    | some (n, b) => { f with bbNext := (n + 1) % 4096, bbSeq := (b + 1) % 65536 }
    | none => { f with bbNext := 0, bbSeq := 1 }

end Sys2Proof.Machine
end

