-- ==== Sys2Proof/Machine/Exchange.lean ====
section
/-! DEFINITION. The Exchange Engine and token pairs (chapter 11, R194 to R199): SCATTER, SORT, EXCHANGE, COMBINE, what arrives,
and the close of the inbound window. -/

namespace Sys2Proof.Machine

/-- WIN of an entry's pairs (R195, R462, Table 4-3). -/
def winOf (s : State) (entry : Nat) : Word :=
  let off :=
    if s.freeRun then 0xFFFFF
    else match s.slot? entry with
      | some x => x.start + x.reserve - 20
      | none => 0
  place (s.tick.num.toNat % 256) 27 20 ||| place off 19 0

/-- A TOK_B payload (Table 4-9). -/
def tokBPayload (xfmt w : Nat) (ts : List Token) : List Byte :=
  padEven (leBytes 2 ts.length ++ leBytes 1 xfmt ++ [0] ++ leBytes 2 w ++ [0, 0] ++ (ts.flatMap fun t => wordBytes t.tag) ++
    ts.map fun t => t.scale)

/-- The tokens of a pair's payloads (Table 4-9). -/
def pairTokens (a b : List Byte) : List Token :=
  let n := field b 0 2
  let w := field b 4 2
  (List.range n).map fun i =>
    { tag := BitVec.ofNat 32 (field b (8 + 4 * i) 4), scale := BitVec.ofNat 8 (field b (8 + 4 * n + i) 1), row := (a.drop (i * w)).take w }

/-- Send a pair: over the Row Link, or inside the node under a number of the segment's own (R194, R457). -/
def sendPair (dst : Nat) (win : Word) (xfmt w inner : Nat) (ts : List Token) : Prog :=
  .look fun s =>
    let a := ts.flatMap fun t => t.row
    let b := tokBPayload xfmt w ts
    if dst = s.link.addr.toNat then
      modXe fun x => { x with pairs := x.pairs ++
        [{ src := s.link.addr, pair := BitVec.ofNat 16 inner, win := win, a := a, b := b, port := .up, units := 0, full := false }] }
    else
      let p : Port := if dst < s.link.addr.toNat then .up else .dn
      Prog.all [
        modLink fun l => { l with pairTx := l.pairTx + 1 }, addWrap Reg.xePairsTx 1,
        sendInTime p (ownFrame s 2 (BitVec.ofNat 6 dst) s.link.pairTx win a), sendInTime p (ownFrame s 3 (BitVec.ofNat 6 dst) s.link.pairTx win b)]

/-- A control block (Table 11-4). -/
def controlBlock (total layer : Nat) (rest : List Byte) : List Byte := leBytes 4 total ++ leBytes 1 layer ++ [0, 0, 0] ++ rest

/-- Send a control pair (R459, Table 11-3). -/
def sendControl (dst kind : Nat) (win : Word) (xfmt : Nat) (block : List Byte) : Prog :=
  .look fun s => sendPair dst win xfmt block.length 0
    [{ tag := place s.link.addr.toNat 31 26 ||| place 31 12 8 ||| place kind 7 0, scale := 0, row := block }]

/-- A list in pieces of n: full pairs, then the rest (R458). -/
def pieces {α : Type} (n : Nat) (l : List α) : List (List α) := (List.range (ceilDiv l.length n)).map fun i => (l.drop (i * n)).take n

/-- Send the token pairs of a segment; the first is the pair after its header (R458, R470). -/
def sendTokens (dst : Nat) (win : Word) (l : Layer) (ts : List Token) : Prog :=
  let ps := pieces l.perPair ts
  Prog.each ((List.range ps.length).zip ps) fun x => sendPair dst win l.xfmt l.w (x.1 + 1) x.2

/-- The state of a layer that has done nothing in this tick (R481). -/
def LayerSt.empty (n : Nat) : LayerSt :=
  { layer := n, sent := [], rowsX := 0, counts := [], declared := [], placed := [], dropped := [] }

/-- Change a layer's state, creating it (R480). -/
def modLayer (n : Nat) (f : LayerSt → LayerSt) : Prog :=
  modXe fun x =>
    if x.layers.any fun l => l.layer == n then { x with layers := x.layers.map fun l => if l.layer == n then f l else l }
    else { x with layers := x.layers ++ [f (LayerSt.empty n)] }

/-- A layer's state in this tick. -/
def State.layerSt (s : State) (n : Nat) : LayerSt :=
  (s.xe.layers.find? fun l => l.layer == n).getD (LayerSt.empty n)

/-- Change the command that takes inbound traffic. -/
def modInbound (f : Inbound → Inbound) : Prog := modXe fun x => { x with inbound := x.inbound.map f }

/-- Change the segment of a source. -/
def modSeg (src : Nat) (f : Seg → Seg) : Prog :=
  modInbound fun b => { b with segs := b.segs.map fun g => if g.src == src then f g else g }

/-- Whether a segment is complete: a direct one has exactly its TOTAL, the others have all that they declare (R466, R472, R478). -/
def Seg.complete (kind : Nat) (g : Seg) : Bool :=
  match g.total with
  | some t => if kind = 0 then g.got == t else decide (t ≤ g.got)
  | none => false

/-- KIND of the control pairs of an inbound kind (Table 11-3). -/
def controlKind (kind : Nat) : Nat := if kind = 0 then 2 else if kind = 1 then 1 else 3

/-- Next free row of a resident bin (R455). -/
def binRow (x : Xe) (layer slot : Nat) : Nat := ((x.bins.find? fun b => b.1 == layer && b.2.1 == slot).map fun b => b.2.2).getD 0

/-- Place a token into the next row of a resident expert's bin (R455, R464). -/
def placeToken (l : Layer) (e : Expert) (t : Token) : Prog :=
  .look fun s =>
    let j := binRow s.xe l.layer e.slot
    Prog.all [
      putToken e.bin e.slots l.w j t,
      modXe fun x => { x with bins := (x.bins.filter fun b => !(b.1 == l.layer && b.2.1 == e.slot)) ++ [(l.layer, e.slot, j + 1)] },
      modLayer l.layer fun y => { y with placed := y.placed ++ [(e.slot, t.tag)] }]

/-- The resident expert that a token of out traffic from a source names, unless R460 discards the token. -/
def outExpert (s : State) (l : Layer) (src : Nat) (t : Token) : Option Expert :=
  if tagMark t.tag = 0 ∧ tagSrc t.tag = src then
    (l.experts[tagExpert t.tag]?).bind fun e => if e.node = s.link.addr.toNat then some e else none
  else none

/-- Whether a segment still expects tokens (R460). -/
def roomFor (s : State) (src : Nat) : Bool :=
  match s.xe.inbound.bind fun b => b.segs.find? fun g => g.src == src with
  | some g => g.total.all fun t => decide (g.got < t)
  | none => false

/-- A token of direct traffic (R460, R464). -/
def takeDirect (l : Layer) (src : Nat) (t : Token) : Prog :=
  .look fun s =>
    match outExpert s l src t with
    | some e => if roomFor s src then .seq (placeToken l e t) (modSeg src fun g => { g with got := g.got + 1 }) else setFlag .tagBad
    | none => setFlag .tagBad

/-- A token of sorted traffic waits for the decision (R460, R470, R472). While the OUT_HDR of its segment is missing it has no position
and is lost. -/
def takeSorted (l : Layer) (src pos : Nat) (hdr : Bool) (t : Token) : Prog :=
  .look fun s =>
    match outExpert s l src t with
    | some _ =>
      if !hdr then .skip
      else if roomFor s src then
        .seq (modInbound fun b => { b with arrived := b.arrived ++ [{ src := src, pos := pos, tag := t.tag, scale := t.scale, row := t.row }] })
          (modSeg src fun g => { g with got := g.got + 1 })
      else setFlag .tagBad
    | none => setFlag .tagBad

/-- Change the first element that passes a test. -/
def changeFirst {α : Type} (p : α → Bool) (f : α → α) : List α → List α
  | [] => []
  | a :: rest => if p a then f a :: rest else a :: changeFirst p f rest

/-- A returned result goes to its place in the receive area (R460, R477, R478): that of the first assignment still out that its tag names at its
source node. -/
def takeBack (l : Layer) (b : Inbound) (src : Nat) (t : Token) : Prog :=
  .look fun s =>
    let st := s.layerSt l.layer
    let mine := fun (a : Assign) => a.token == tagToken t.tag && a.rank == tagRank t.tag && a.expert == tagExpert t.tag && a.dest == src
    let due := fun (a : Assign) => mine a && (a.fate == .sent || !st.sent.any fun x => mine x && x.fate == .sent)
    let rows := ((st.sent.find? due).map fun a => a.rows).getD 0
    let start := b.recv + tagRank t.tag * (b.bytes / 2)
    if tagMark t.tag = 0 ∧ tagSrc t.tag = s.link.addr.toNat ∧ roomFor s src then
      .seq (modSeg src fun g => { g with got := g.got + 1 })
        (Prog.when (st.sent.any mine) (Prog.all [
          unitStore (start + tagToken t.tag * l.w) (t.row.take l.w), unitStore (start + wireScale rows l.w (tagToken t.tag)) [t.scale],
          modLayer l.layer fun y => { y with sent := changeFirst due (fun a => { a with fate := .returned }) y.sent }]))
    else setFlag .tagBad

/-- A control block arrives (R459, R471, R478). -/
def takeControl (b : Inbound) (l : Layer) (src : Nat) (pair : BitVec 16) (block : List Byte) : Prog :=
  .seq (modSeg src fun g => { g with
      total := some (field block 0 4), pairHdr := pair, counts := (List.range 16).map fun i => field block (8 + 2 * i) 2 })
    (if b.kind = 1 then .seq (modLayer l.layer fun y => { y with
          declared := (y.declared.filter fun d => d.1 != src) ++ [(src, (List.range 16).map fun i => field block (8 + 2 * i) 2)] })
        (Prog.when (decide (1024 ≤ b.bytes)) (unitStore (b.recv + 32 * (src - 1)) ((block.drop 8).take 32)))
     else if b.kind = 2 then modLayer l.layer fun y => { y with sent := y.sent.map fun a =>
        if a.dest == src && (BitVec.ofNat 8 (field block (8 + (2 * a.token + a.rank) / 8) 1)).getLsbD ((2 * a.token + a.rank) % 8)
        then { a with fate := .dropped } else a }
     else .skip)

/-- Free the buffer that a pair holds (R162, R164). -/
def freePair (p : Pair) : Prog := Prog.when (decide (p.units ≠ 0)) (releaseToken p.port [2, 3] p.src p.pair p.units)

/-- Keep a pair in the receive buffer (R461). -/
def keepPair (p : Pair) : Prog := modXe fun x => { x with pairs := x.pairs ++ [p] }

/-- Tokens of a pair that go to a resident slot of a direct layer. -/
def tokensFor (s : State) (l : Layer) (src : Nat) (ts : List Token) (slot : Nat) : Nat :=
  (ts.filter fun t => (outExpert s l src t).any fun e => e.slot == slot).length

/-- Whether some bin has too few free rows for a pair (R465). -/
def binsFull (s : State) (l : Layer) (src : Nat) (ts : List Token) : Bool :=
  (List.range 16).any fun slot =>
    match l.resident s.link.addr.toNat slot with
    | some e => decide (e.slots < binRow s.xe l.layer slot + tokensFor s l src ts slot)
    | none => false

/-- Whether a control word at a tag position belongs to the segment of the command (R459, Table 11-3). -/
def controlFits (b : Inbound) (g : Seg) (t : Token) : Bool :=
  decide (bits t.tag 7 0 = controlKind b.kind) && decide (field t.row 4 1 = b.layer) && g.total.isNone

/-- One tag position of a pair: a control word or a token (R460). -/
def takePosition (b : Inbound) (l : Layer) (g : Seg) (pair : BitVec 16) (k : Nat) (t : Token) : Prog :=
  if tagMark t.tag = 31 then Prog.when (controlFits b g t) (takeControl b l g.src pair t.row)
  else if b.kind = 0 then takeDirect l g.src t
  else if b.kind = 1 then takeSorted l g.src ((pair - g.pairHdr - 1).toNat * l.perPair + k) g.total.isSome t
  else takeBack l b g.src t

/-- Whether a pair has to wait for a later command of the XE (R461): its source has an earlier pair that waits, its control word is
another command's, or its segment is complete and its WIN is not this command's (log entry 109). -/
def waitsFor (s : State) (b : Inbound) (g : Seg) (p : Pair) (ts : List Token) : Bool :=
  (s.xe.pairs.any fun q => q.src == p.src && !q.full) ||
    (match ts.head? with
      | some t => if tagMark t.tag = 31 then !controlFits b g t else g.complete b.kind && (s.freeRun || p.win != b.win)
      | none => false)

/-- The XE takes a pair that belongs to its command, holds one that finds its bin full, and leaves every other one in the
buffer (R460, R461, R465). Results are placed without their BACK_HDR too. -/
def takePair (p : Pair) : Prog :=
  .look fun s =>
    match s.xe.inbound with
    | none => keepPair p
    | some b =>
      match s.layer? b.layer, b.segs.find? fun g => g.src == p.src.toNat with
      | some l, some g =>
        let ts := pairTokens p.a p.b
        if waitsFor s b g p ts then keepPair p
        else if b.kind = 0 && !g.complete 0 && binsFull s l g.src ts then .seq (keepPair { p with full := true }) (setFlagIf (!p.full) .binFull)
        else Prog.all [
          Prog.each ((List.range ts.length).zip ts) fun x => takePosition b l g p.pair x.1 x.2, freePair p,
          Prog.when (p.units != 0) (addWrap Reg.xePairsRx 1)]
      | _, _ => keepPair p

/-- A declared token of a slot (R472): its source, its place in the source's list of the slot, whether it is dropped, and the token if it
arrived. -/
structure SlotVerdict where
  src  : Nat
  idx  : Nat
  drop : Bool
  got  : Option Arrived

/-- The verdicts of a resident slot, in the order of R472. -/
def slotVerdicts (b : Inbound) (l : Layer) (cap slot : Nat) : List SlotVerdict :=
  let declared := l.sources.flatMap fun a =>
    match b.segs.find? fun g => g.src == a with
    | some g =>
      if g.total.isNone then []
      else
        let first := (g.counts.take slot).sum
        (List.range (g.counts[slot]?.getD 0)).map fun i => (a, i, b.arrived.find? fun x => x.src == a && x.pos == first + i)
    | none => []
  ((List.range declared.length).zip declared).map fun x => ⟨x.2.1, x.2.2.1, decide (cap ≤ x.1), x.2.2.2⟩

/-- The tag of a declared token of an expert (R450). The receiver of one that did not arrive knows its source and its expert; its token
index and rank are free (log entry 110). -/
def declaredTag (l : Layer) (e : Nat) (v : SlotVerdict) : Word :=
  match v.got with
  | some a => a.tag
  | none => tagWord v.src (Config.unseenToken v.src e v.idx % 4096) (if l.top2 then Config.unseenToken v.src e v.idx / 4096 % 2 else 0) e

/-- Global number of the expert in a slot of a node. -/
def Layer.expertIn (l : Layer) (node slot : Nat) : Nat := l.experts.findIdx fun x => x.node == node && x.slot == slot

/-- The receiver decides its resident slots (R472, R473): every dropped token is marked, arrived or not. -/
def decideSorted (b : Inbound) (l : Layer) : Prog :=
  .look fun s =>
    let slots := (List.range 16).filterMap fun n => (l.resident s.link.addr.toNat n).map fun e => (n, e)
    let verdicts := slots.map fun x => (x.2, slotVerdicts b l x.2.cap x.1)
    let drops := verdicts.flatMap fun v => (v.2.filter fun y => y.drop).map fun y =>
      declaredTag l (l.expertIn s.link.addr.toNat v.1.slot) y
    Prog.all [
      Prog.each verdicts fun v => Prog.each (v.2.filterMap fun y => if y.drop then none else y.got) fun a =>
        placeToken l v.1 { tag := a.tag, scale := a.scale, row := a.row },
      modLayer l.layer fun y => { y with dropped := y.dropped ++ drops.map fun t => (tagSrc t, tagToken t, tagRank t) },
      Prog.each slots fun x => .look fun t => writeShape (b.recv + 4 * b.shapeOff + 4 * x.1) (binRow t.xe l.layer x.1),
      addSat Reg.xeDropTok 31 0 drops.length,
      setFlagIf (!drops.isEmpty) .capDrop,
      (match drops.getLast? with
        | some t => .reg Reg.xeLastDrop t
        | none => .skip)]

/-- The bins' counts of a direct layer (R466). -/
def directShapes (l : Layer) : Prog :=
  .look fun s => Prog.each ((List.range 16).filterMap fun n => l.resident s.link.addr.toNat n) fun e =>
    writeShape e.shape (binRow s.xe l.layer e.slot)

/-- The inbound traffic of the command ends (R466, R473, R478): counts, SEG_MISSING, the fence; the list goes on. Table 18-1
gives missing return traffic no record (R684; log entry 119). -/
def finishInbound : Prog :=
  .look fun s =>
    match s.xe.inbound with
    | none => .skip
    | some b =>
      let missing := b.segs.any fun g => !g.complete b.kind
      Prog.all [
        (match s.layer? b.layer with
          | none => .skip
          | some l =>
            if b.kind = 0 then directShapes l
            else if b.kind = 1 then decideSorted b l
            else modLayer l.layer fun y => { y with sent := y.sent.map fun a => if a.fate == .sent then { a with fate := .lost } else a }),
        Prog.when missing (Prog.all [
          setFlag .segMissing, Prog.when (b.kind != 2) (raise 0x0801 1 (place b.layer 31 0)), modTick fun t => { t with lost := true }]),
        addFence b.fc 1,
        modXe fun x => { x with inbound := none },
        .look fun t => (match t.eng.xe with
          | some r => (match r.block with
            | .busy ws => advance .xe r ws.length
            | _ => .skip)
          | none => .skip)]

/-- The XE looks through the pairs that wait, and ends its command's inbound traffic when that is complete. -/
def pump : Prog :=
  .look fun s => Prog.when s.xe.inbound.isSome (Prog.all [
    modXe fun x => { x with pairs := [] }, Prog.each s.xe.pairs takePair,
    .look fun t => Prog.when (t.xe.inbound.any fun b => b.segs.all fun g => g.complete b.kind) finishInbound])

/-- Pairs whose WIN has passed leave the buffer; time passes in the cycles of the I/O clock and at edges (R198, R461). -/
def purgePairs : Prog :=
  .look fun s =>
    let late := s.xe.pairs.filter fun p => winPassed s p.win
    .seq (modXe fun x => { x with pairs := x.pairs.filter fun p => !winPassed s p.win })
      (Prog.each late fun p => .seq (setFlag .lateDiscard) (freePair p))

/-- INBOUND_WINDOW_CLOSE (R462, R465): pairs that found their bin full are discarded, and the inbound traffic ends. -/
def execInboundWindowClose (s : State) : Host.Outcome State Fault Refusal :=
  Prog.next (.seq (Prog.when s.xe.inbound.isSome (Prog.all [
    modXe fun x => { x with pairs := x.pairs.filter fun p => !p.full },
    Prog.each (s.xe.pairs.filter fun p => p.full) freePair, finishInbound])) purgePairs) s

/-- The segments that a command awaits: from every source at a destination, or from every destination at a source. -/
def newSegs (l : Layer) (me kind : Nat) : List Seg :=
  (if kind = 2 then (if me ∈ l.sources then l.dests else []) else if me ∈ l.dests then l.sources else []).map fun a =>
    { src := a, total := none, pairHdr := 0, counts := [], got := 0 }

/-- The XE's list waits for inbound traffic from now on (R461); its command is the one whose words are given (R321). -/
def openInbound (ws : List Word) (l : Layer) (kind fc recv bytes shapeOff : Nat) (win : Word) : Prog :=
  .look fun s => Prog.all [
    modRun .xe fun r => { r with block := .busy ws },
    modXe fun x => { x with inbound := some { layer := l.layer, kind := kind, fc := fc, recv := recv, bytes := bytes, shapeOff := shapeOff,
                                              win := win, segs := newSegs l s.link.addr.toNat kind, arrived := [] } },
    purgePairs]

/-- The assignments of a tag array of E tokens that name an expert of the layer: index and tag (R447). -/
def assignments (s : State) (l : Layer) (tags e : Nat) : List (Nat × Word) :=
  ((List.range (e * l.ranks)).map fun i => (i, s.rd32 (tags + 4 * i))).filter fun x => decide (l.nodeOf (tagExpert x.2) ≠ 0)

/-- The record of a sent assignment (R480). -/
def sentAssign (l : Layer) (rows : Nat) (tag : Word) : Assign :=
  { token := tagToken tag, rank := tagRank tag, expert := tagExpert tag, dest := l.nodeOf (tagExpert tag), rows := rows, fate := .sent }

/-- Put a token into the pending pair of a destination, in ascending destination. -/
def pend (d : Nat) (t : Token) : List (Nat × List Token) → List (Nat × List Token)
  | [] => [(d, [t])]
  | (x, ts) :: rest => if d < x then (d, [t]) :: (x, ts) :: rest else if d = x then (x, ts ++ [t]) :: rest else (x, ts) :: pend d t rest

/-- The pairs of a SCATTER in the order in which they are sent (R463). -/
def scatterPairs (n : Nat) : List (Nat × Token) → List (Nat × List Token) → List (Nat × List Token)
  | [], p => p
  | (d, t) :: rest, p =>
    let q := pend d t p
    match q.find? fun x => x.1 == d && decide (n ≤ x.2.length) with
    | some x => x :: scatterPairs n rest (q.filter fun y => y.1 != d)
    | none => scatterPairs n rest q

/-- SCATTER (R457, R463): a source sends its tokens and an OUT_END to every destination. One of extent 0 holds its list no longer, while its
inbound traffic goes on (R341, R457; log entry 67). -/
def scatterEffect (r : Run) (ws : List Word) (l : Layer) : Prog :=
  .look fun s =>
    let x := trefAt ws 1
    let e := commandExtent s [x]
    let win := winOf s r.entry
    let as' := assignments s l (wordAt ws 5).toNat e
    let toks := as'.map fun a => (l.nodeOf (tagExpert a.2), tokenAt s x.addr x.rows l.w (a.1 / l.ranks) a.2)
    Prog.all [
      extentFlags s [x],
      openInbound ws l 0 (bits (wordAt ws 7) 5 0) 0 0 0 win,
      Prog.when (decide (s.link.addr.toNat ∈ l.sources)) (Prog.all [
        modLayer l.layer fun y => { y with sent := y.sent ++ as'.map fun a => sentAssign l x.rows a.2 },
        Prog.each (scatterPairs l.perPair toks []) fun p => sendPair p.1 win l.xfmt l.w 0 p.2,
        Prog.each l.dests fun d => sendControl d 2 win l.xfmt (controlBlock (toks.filter fun t => t.1 == d).length l.layer [])]),
      Prog.when (e == 0) (advance .xe r ws.length), pump]

/-- SORT (R467, R468): the send buffer in the order of destination, expert and token index. Its wire tensor has as many rows
as the declared ROWS of X allow (log entry 19). -/
def sortEffect (r : Run) (ws : List Word) (l : Layer) : Prog :=
  .look fun s =>
    let x := trefAt ws 1
    let as' := assignments s l (wordAt ws 5).toNat (commandExtent s [x])
    let nodes := (List.range 32).map fun i => i + 1
    let counts := nodes.map fun d => (as'.filter fun a => l.nodeOf (tagExpert a.2) == d).length
    let order := nodes.flatMap fun d => ((List.range l.experts.length).filter fun e => l.nodeOf e == d).flatMap fun e =>
      as'.filter fun a => tagExpert a.2 == e
    let send := (wordAt ws 6).toNat
    let rows := x.rows * l.ranks
    Prog.all [
      extentFlags s [x],
      Prog.each ((List.range order.length).zip order) fun y =>
        putToken send rows l.w y.1 (tokenAt s x.addr x.rows l.w (tagToken y.2.2) y.2.2),
      modLayer l.layer fun y => { y with rowsX := x.rows, counts := counts },
      Prog.when (wordAt ws 8 != 0) (Prog.each ((List.range 32).zip counts) fun y => writeShape ((wordAt ws 8).toNat + 4 * y.1) y.2),
      advance .xe r ws.length]

/-- The nodes in the rotation from a node on (R469). -/
def rotation (me : Nat) : List Nat := (List.range 32).map fun k => (me - 1 + k) % 32 + 1

/-- EXCHANGE with DIR 0 (R457, R469, R471). -/
def exchangeOut (r : Run) (ws : List Word) (l : Layer) : Prog :=
  .look fun s =>
    let me := s.link.addr.toNat
    let st := s.layerSt l.layer
    let send := (wordAt ws 1).toNat
    let recv := (wordAt ws 2).toNat
    let bytes := (wordAt ws 3).toNat
    let win := winOf s r.entry
    let rows := st.rowsX * l.ranks
    let count := fun d => st.counts[d - 1]?.getD 0
    let token := fun j => tokenAt s send rows l.w j (s.rd32 (send + wireTag rows l.w j))
    let segment := fun d => (List.range (count d)).map fun i => token ((st.counts.take (d - 1)).sum + i)
    let slotCount := fun d n => ((segment d).filter fun t => (l.experts[tagExpert t.tag]?).any fun e => e.slot == n).length
    Prog.all [
      Prog.when (decide (me ∈ l.dests) && decide (1024 ≤ bytes)) (unitStore recv (List.replicate 1024 0)),
      openInbound ws l 1 (bits (wordAt ws 5) 21 16) recv bytes (bits (wordAt ws 5) 15 0) win,
      Prog.when (decide (me ∈ l.sources)) (Prog.each ((rotation me).filter fun d => decide (d ∈ l.dests)) fun d => Prog.all [
        modLayer l.layer fun y => { y with sent := y.sent ++ (segment d).map fun t => sentAssign l st.rowsX t.tag },
        sendControl d 1 win l.xfmt
          (controlBlock (count d) l.layer ((List.range 16).flatMap fun n => leBytes 2 (slotCount d n))),
        sendTokens d win l (segment d)]),
      pump]

/-- The DROPMAP of a source (Table 11-4). -/
def dropMap (st : LayerSt) (src : Nat) : List Byte :=
  let set := (st.dropped.filter fun x => x.1 == src).map fun x => 2 * x.2.1 + x.2.2
  (List.range 1024).map fun i => BitVec.ofNat 8 (fromBits ((List.range 8).map fun j => decide (8 * i + j ∈ set)))

/-- The results that a host returns, by ascending slot and bin row: slot, row and tag (R476). Slots whose table word is 0 are
unused (R475). -/
def resultRows (s : State) (st : LayerSt) (table : Nat) : List (Nat × Nat × Word) :=
  (List.range 16).flatMap fun n =>
    if s.rd32 (table + 4 * n) = 0 then []
    else
      let tags := (st.placed.filter fun p => p.1 == n).map fun p => p.2
      ((List.range tags.length).zip tags).map fun x => (n, x.1, x.2)

/-- EXCHANGE with DIR 1 (R475 to R477). -/
def exchangeBack (r : Run) (ws : List Word) (l : Layer) : Prog :=
  .look fun s =>
    let me := s.link.addr.toNat
    let st := s.layerSt l.layer
    let table := (wordAt ws 1).toNat
    let win := winOf s r.entry
    let rows := resultRows s st table
    let token := fun (x : Nat × Nat × Word) =>
      tokenAt s (s.rd32 (table + 4 * x.1)).toNat (((l.resident me x.1).map fun e => e.slots).getD 0) l.w x.2.1 x.2.2
    Prog.all [
      openInbound ws l 2 (bits (wordAt ws 5) 21 16) (wordAt ws 2).toNat (wordAt ws 3).toNat (bits (wordAt ws 5) 15 0) win,
      Prog.when (decide (me ∈ l.dests)) (Prog.each ((rotation me).filter fun a => decide (a ∈ l.sources)) fun a =>
        let mine := (rows.filter fun x => tagSrc x.2.2 == a).map token
        .seq (sendControl a 3 win l.xfmt (controlBlock mine.length l.layer (dropMap st a))) (sendTokens a win l mine)),
      pump]

/-- Status code of an assignment for COMBINE (Table 11-5). An assignment without a result counts as lost. -/
def combineStat (st : LayerSt) (t rank : Nat) : Nat :=
  match st.sent.find? fun a => a.token == t && a.rank == rank with
  | some a => if a.fate = .returned then 0 else if a.fate = .dropped then 1 else 2
  | none => 2

/-- COMBINE (R482 to R485). -/
def combineEffect (r : Run) (ws : List Word) (l : Layer) : Prog :=
  .look fun s =>
    let x := trefAt ws 1
    let e := commandExtent s [x, trefAt ws 5, trefAt ws 9]
    let top2 := bit (wordAt ws 14) 31
    let ranks := if top2 then 2 else 1
    let tags := (wordAt ws 13).toNat
    let st := s.layerSt l.layer
    let gate := fun t k => numOf Fmt.bf16 (s.rd16 (tags + 4 * x.rows * ranks + 2 * (t * ranks + k)))
    let wire := fun k t c => let y := trefAt ws (5 + 4 * k)
      Num.mul (numOf l.xfmt (s.rd8 (y.addr + t * l.w + c)).toNat) (numOf Fmt.p2 (s.rd8 (y.addr + wireScale x.rows l.w t)).toNat)
    let term := fun t c k acc => if combineStat st t k = 0 then Num.add acc (Num.mul (gate t k) (wire k t c)) else acc
    let elem := fun t c => narrow x.fmt (let a := term t c 0 (s.num x t c); if top2 then term t c 1 a else a)
    let stat := fun t => combineStat st t 0 + 4 * (if top2 then combineStat st t 1 else 3)
    let lost := ((List.range e).map fun t => ((List.range ranks).filter fun k => combineStat st t k == 2).length).sum
    Prog.all [
      extentFlags s [x, trefAt ws 5, trefAt ws 9],
      writeRows x 0 ((List.range e).map fun t => (t, (List.range x.cols).map fun c => (elem t c, 0))),
      unitStore (tags + 4 * bits (wordAt ws 14) 15 0) ((List.range e).map fun t => BitVec.ofNat 8 (stat t)),
      Prog.when (decide (lost ≠ 0)) (Prog.all [
        addSat Reg.xeLostTok 31 0 lost, setFlag .contribLost, modTick fun t => { t with lost := true }]),
      advance .xe r ws.length]

/-- LAYER of an XE command (Table 8-8). -/
def xeLayer (ws : List Word) : Nat :=
  let o := hdrOpc (wordAt ws 0)
  bits (wordAt ws (if o = 0x21 then 6 else if o = 0x22 then 7 else if o = 0x23 then 4 else 14)) 23 16

/-- Issue an XE command: its effect, once no scene-memory move holds it (R520). A SCATTER or EXCHANGE waits while the inbound traffic of
an earlier one goes on, since the XE takes it for one command at a time (R461). -/
def xeIssue (opc : Nat) (k : Run → List Word → Layer → Prog) (s : State) : Host.Outcome State Fault Refusal :=
  Prog.next (match s.eng.xe with
    | none => .skip
    | some r =>
      let ws := s.command r
      match s.layer? (xeLayer ws) with
      | none => .skip
      | some l => Prog.when (mayIssue s .xe opc && !(decide (opc = 0x21 ∨ opc = 0x23) && s.xe.inbound.isSome)) (if smHolds s ws then smWaitOnce .xe r else k r ws l)) s

/-- SCATTER (R463). -/
def execScatter (s : State) : Host.Outcome State Fault Refusal := xeIssue 0x21 scatterEffect s

/-- SORT (R467). -/
def execSort (s : State) : Host.Outcome State Fault Refusal := xeIssue 0x22 sortEffect s

/-- EXCHANGE (R469, R475). -/
def execExchange (s : State) : Host.Outcome State Fault Refusal :=
  xeIssue 0x23 (fun r ws l => if bit (wordAt ws 4) 8 then exchangeBack r ws l else exchangeOut r ws l) s

/-- COMBINE (R482). -/
def execCombine (s : State) : Host.Outcome State Fault Refusal := xeIssue 0x24 combineEffect s

/-- A half of a pair reaches its destination (R196, R198). -/
def takeHalf (p : Port) (isA : Bool) (f : RxFrame) : Prog :=
  .look fun s =>
    let units := creditUnits f.payload.length
    let other := s.link.halves.find? fun h => h.isA != isA && h.src == f.src && h.pair == f.aux
    if winPassed s f.win then .seq (setFlag .lateDiscard) (releaseToken p [if isA then 2 else 3] f.src f.aux units)
    else match other with
      | none => modLink fun l => { l with halves := l.halves ++
          [{ isA := isA, src := f.src, pair := f.aux, win := f.win, payload := f.payload, port := p, units := units }] }
      | some h => Prog.all [
          modLink fun l => { l with halves := l.halves.filter fun x => !(x.src == f.src && x.pair == f.aux) },
          keepPair { src := f.src, pair := f.aux, win := f.win, a := if isA then f.payload else h.payload,
                     b := if isA then h.payload else f.payload, port := p, units := units + h.units, full := false },
          pump]

/-- A token frame arrives: it is consumed, forwarded, or discarded as misrouted (R144, R146, R196). -/
def receiveToken (p : Port) (isA : Bool) (f : RxFrame) : Prog :=
  let typ : BitVec 4 := if isA then 2 else 3
  acceptFrame p typ f (.look fun s =>
    match wayOf s.link.addr.toNat p f.dst.toNat with
    | .consume => takeHalf p isA f
    | .forward => forwardFrame p typ f
    | .both => .seq (forwardCopy p typ f) (takeHalf p isA f)
    | .discard => .seq (setFlag .misroute) (releaseFrame p typ f))

/-- TOK_A (R196, R198). -/
def execTokA (p : Port) (f : RxFrame) (s : State) : Host.Outcome State Fault Refusal := Prog.next (receiveToken p true f) s

/-- TOK_B (R196, R198). -/
def execTokB (p : Port) (f : RxFrame) (s : State) : Host.Outcome State Fault Refusal := Prog.next (receiveToken p false f) s

/-- PAIR_DROP (R197): a half without its other is discarded. -/
def execPairDrop (src : BitVec 6) (pair : BitVec 16) (s : State) : Host.Outcome State Fault Refusal :=
  Prog.next (match s.link.halves.find? fun h => h.src == src && h.pair == pair with
    | none => .skip
    | some h => Prog.all [
        modLink fun l => { l with halves := l.halves.filter fun x => !(x.src == src && x.pair == pair) },
        setFlag .pairDrop, releaseToken h.port [if h.isA then 2 else 3] src pair h.units]) s

end Sys2Proof.Machine
end

