-- ==== Sys2Proof/Machine/Pixel.lean ====
section
/-! DEFINITION. The imager and the Pixel Engine (chapter 14): exposure, rows, the pipeline of a PIXEL command, missing frames. -/

namespace Sys2Proof.Machine

/-- The PIXEL command that the Pixel Engine works on, from its issue on: its words as they were then (R321). -/
def pixelCommand (s : State) : Option (List Word) :=
  match s.eng.pe with
  | some r =>
    match r.block with
    | .busy ws => some ws
    | _ => none
  | none => none

/-- Word 1 of that command. -/
def pixelWord (s : State) : Option Word := (pixelCommand s).map fun ws => wordAt ws 1

/-- A PIXEL command with SRC 0 has begun to issue (R550). -/
def pixelWaits (s : State) : Bool := (pixelWord s).any fun w => decide (bits w 31 28 = 0)

/-- PIXEL (R558): the command begins; the Pixel Engine's list goes on when it completes. -/
def execPixel (s : State) : Host.Outcome State Fault Refusal :=
  Prog.next (issue .pe 0x40 fun _ ws => modRun .pe fun r => { r with block := .busy ws }) s

/-- The imager is on in the sense of R550: EN in RUN, a watch frame in WATCH (R571). -/
def imagerEnabled (s : State) : Bool :=
  match s.pwr.level with
  | .keep => false
  | .watch => s.wm.frame
  | .run => s.flag Reg.imgCtrl 0

/-- ARMING_TIME (R550): the frame is taken when the imager is enabled and ready and a PIXEL command waits for it. -/
def execArmingTime (s : State) : Host.Outcome State Fault Refusal :=
  let ok := imagerEnabled s && s.img.ready
  Prog.next (Prog.when (s.pwr.level != .keep)
    (modImg fun i => { i with armPassed := true, armOk := ok, taken := i.taken || (ok && pixelWaits s) })) s

/-- STROBE_EN, or W_STROBE during a watch frame (R551, R571). -/
def strobeOn (s : State) : Bool := if s.pwr.level = .watch then s.flag Reg.watchCtrl 24 else s.flag Reg.imgCtrl 8

/-- STROBE_ASSERT (R551, R553): STROBE becomes active in a tick in which a frame is taken. -/
def execStrobeAssert (s : State) : Host.Outcome State Fault Refusal :=
  Prog.next (Prog.when (s.img.taken && !s.img.browned && strobeOn s) (modImg fun i => { i with strobe := true })) s

/-- EXPOSURE_START (R551). -/
def execExposureStart (s : State) : Host.Outcome State Fault Refusal :=
  Prog.next (Prog.when (s.img.taken && !s.img.browned && !s.img.exposed) (modImg fun i => { i with exposing := true })) s

/-- EXPOSURE_END (R551): readout follows. -/
def execExposureEnd (s : State) : Host.Outcome State Fault Refusal :=
  Prog.next (Prog.when s.img.exposing (modImg fun i => { i with exposing := false, exposed := true })) s

/-- STROBE_RELEASE (R551). -/
def execStrobeRelease (s : State) : Host.Outcome State Fault Refusal :=
  Prog.next (modImg fun i => { i with strobe := false }) s

/-- Columns, rows and binning factor of the delivered frame (Table 14-1, R544, R560). -/
def frameShape (s : State) : Nat × Nat × Nat :=
  if s.pwr.level = .watch then (64, 48, 16) else if s.flag Reg.imgCtrl 1 then (512, 384, 2) else (1024, 768, 1)

/-- Whether every row of the frame has arrived. -/
def frameArrived (s : State) : Bool := s.img.rows.length == (frameShape s).2.1

/-- Columns of the pixel array (Table 14-1). -/
abbrev arrayCols : Nat := 1024

/-- The light of the pixels that column c of a delivered row is binned from, summed (Table 14-1): `light` holds the array rows of the delivered one, from
left to right, one after the other. -/
def binnedLight (n : Nat) (light : List Nat) (c : Nat) : Nat :=
  ((List.range n).map fun i => ((List.range n).map fun j => light.getD (arrayCols * i + n * c + j) 0).sum).sum

/-- The converted value of a delivered pixel: the mean light of its pixels in codes of gain 1×, times GAIN of IMG_CTRL, rounded and clamped to ten bits
(R406, R544, R547; log entry 93). -/
def convertPixel (s : State) (n light : Nat) : Nat := min 1023 (roundDiv (light * 2 ^ s.fld Reg.imgCtrl 5 4) (n * n))

/-- The values of a delivered row (R544, R547). -/
def convertRow (s : State) (light : List Nat) : List Nat :=
  (List.range (frameShape s).1).map fun c => convertPixel s (frameShape s).2.2 (binnedLight (frameShape s).2.2 light c)

/-- The segment of a row that graft port p carries: sixteen equal column ranges (R548). -/
def graftSegment (row : List Nat) (p : Nat) : List Nat := (row.drop (row.length / 16 * p)).take (row.length / 16)

/-- The parity of a row segment: the exclusive or of its bits (R548). Even parity is as good as odd here. -/
def segmentParity (seg : List Nat) : Bool :=
  seg.foldl (fun acc v => (List.range 10).foldl (fun a i => a != v.testBit i) acc) false

/-- A segment as port p delivers it: with one bit of its first value wrong where the port corrupted it. -/
def deliveredSegment (row : List Nat) (p : Nat) (corrupt : Bool) : List Nat :=
  match graftSegment row p with
  | v :: t => if corrupt then (v ^^^ 1) :: t else v :: t
  | [] => []

/-- Whether every port's segment of a row passes its parity check (R548, R549). -/
def graftPasses (row : List Nat) (corrupt : BitVec 16) : Bool :=
  (List.range 16).all fun p =>
    segmentParity (deliveredSegment row p (corrupt.getLsbD p)) == segmentParity (graftSegment row p)

/-- Black level (Table 14-3). -/
def blackLevel (s : State) (bl : Bool) (v : Nat) : Nat := if bl then v - s.fld Reg.pixBlack 9 0 else v

/-- IMAGER_ROW (R544, R546 to R549): the next row of the frame is binned, converted and arrives through the 16 graft ports; a row with a segment that
fails parity repeats the previous one. -/
def execImagerRow (row : Nat) (light : List Nat) (corrupt : BitVec 16) (s : State) : Host.Outcome State Fault Refusal :=
  let cols := (frameShape s).1
  let vals := convertRow s light
  let bl := (pixelWord s).any fun w => bit w 16
  let due := s.img.exposed && !s.img.browned && decide (row = s.img.rows.length) && decide (row < (frameShape s).2.1) && pixelWaits s
  Prog.next (Prog.when due
    (if graftPasses vals corrupt then modImg fun i => { i with
        rows := i.rows ++ [vals.map (blackLevel s bl)], sat := i.sat + (vals.filter fun v => v == 1023).length }
     else Prog.all [
      modImg fun i => { i with rows := i.rows ++ [i.rows.getLast?.getD (List.replicate cols 0)] },
      setFlag .graftErr, addSat Reg.pixRowerr 31 0 1,
      .look fun t => raise 0x0A02 1 (t.stored Reg.pixRowerr)])) s

/-- IMG_READY (R556). -/
def execImgReady (s : State) : Host.Outcome State Fault Refusal :=
  Prog.next (Prog.when s.img.on (modImg fun i => { i with ready := true })) s

/-- The imager is switched on by entry to WATCH or RUN or by VDD_PIX returning (R100, R556). -/
def imagerOn : Prog :=
  .look fun s => Prog.when (s.imagerPresent && !s.pwr.vddPixLow && s.pwr.level != .keep && !s.img.on)
    (modImg fun i => { i with on := true, ready := false })

/-- The imager is switched off: its readiness is lost, and with it a frame that has not arrived whole (R100, R555, R556). -/
def imagerOff : Prog :=
  .look fun s => modImg fun i => { i with
    on := false, ready := false, strobe := false, browned := i.browned || (i.taken && !frameArrived s), exposing := false }

/-- PIX_BROWN (R100). -/
def execPixBrown (s : State) : Host.Outcome State Fault Refusal :=
  Prog.next (Prog.when s.fuse.isV64 (Prog.all [
    modPwr fun p => { p with vddPixLow := true }, imagerOff, setFlag .pixBrown, raise 0x0F04 1 0])) s

/-- VDD_PIX_RESTORE (R100). -/
def execVddPixRestore (s : State) : Host.Outcome State Fault Refusal :=
  Prog.next (.seq (modPwr fun p => { p with vddPixLow := false }) imagerOn) s

/-- A source frame as the pipeline takes it: columns, rows, binning factor and the values after black level. -/
structure Frame where
  cols : Nat
  rows : Nat
  s    : Nat
  v    : Nat → Nat → Nat

/-- The converted value of a pixel of a pattern or a frame in memory (R564). -/
def patternPixel (st : State) (src inAddr r c : Nat) : Nat :=
  if src = 1 then (r + c) % 1024
  else if src = 2 then (if (r / 32 + c / 32) % 2 = 0 then 960 else 64)
  else st.rd16 (inAddr + 2 * (1024 * r + c)) % 1024

/-- The source frame of a PIXEL command after black level (Table 14-3, R564). -/
def sourceFrame (st : State) (ws : List Word) : Frame :=
  let src := bits (wordAt ws 1) 31 28
  if src = 0 then
    let f := frameShape st
    { cols := f.1, rows := f.2.1, s := f.2.2, v := fun r c => ((st.img.rows[r]?.getD [])[c]?).getD 0 }
  else { cols := 1024, rows := 768, s := 1,
         v := fun r c => blackLevel st (bit (wordAt ws 1) 16) (patternPixel st src (wordAt ws 2).toNat r c) }

/-- Delivered pixels whose converted value is 1,023 (Table 14-5). -/
def satCount (st : State) (ws : List Word) : Nat :=
  let src := bits (wordAt ws 1) 31 28
  if src = 0 then st.img.sat
  else ((List.range 768).map fun r => ((List.range 1024).filter fun c => patternPixel st src (wordAt ws 2).toNat r c == 1023).length).sum

/-- Whether the defect map names a pixel (R566). -/
def isDefect (st : State) (r c : Nat) : Bool :=
  (List.range 512).any fun i =>
    let w := st.stored (Reg.pixDef0 + 4 * i)
    bit w 31 && decide (bits w 25 16 = r) && decide (bits w 9 0 = c)

/-- Defect correction: the mean of the neighbours' values after black level (R559, Table 14-3). -/
def defectStage (st : State) (on : Bool) (f : Frame) (r c : Nat) : Nat :=
  if on && f.s == 1 && isDefect st r c then
    if c = 0 then f.v r 1 else if c + 1 = f.cols then f.v r (c - 1) else roundDiv (f.v r (c - 1) + f.v r (c + 1)) 2
  else f.v r c

/-- Address of the flat-field table (Table 14-4). -/
def flatTable (st : State) (ws : List Word) : Nat := (st.rd32 ((wordAt ws 5).toNat + 4)).toNat

/-- Flat field (Table 14-3, R560). -/
def flatStage (st : State) (ws : List Word) (f : Frame) (r c v : Nat) : Nat :=
  if bit (wordAt ws 1) 18 then
    min 1023 (roundDiv (v * st.rd16 (flatTable st ws + 2 * (32 * (r * f.s / 32) + c * f.s / 32))) 16384)
  else v

/-- Sum of a square block of values. -/
def blockSum (v : Nat → Nat → Nat) (n r c : Nat) : Nat :=
  ((List.range n).map fun i => ((List.range n).map fun j => v (r * n + i) (c * n + j)).sum).sum

/-- Mean of every n × n block, rounded (Table 14-3). -/
def binned (n : Nat) (f : Frame) : Frame :=
  { f with cols := f.cols / n, rows := f.rows / n, v := fun r c => roundDiv (blockSum f.v n r c) (n * n) }

/-- Level 0 of a PIXEL command: stages 1 to 4 (Table 14-3). -/
def levelZero (st : State) (ws : List Word) : Frame :=
  let f := sourceFrame st ws
  let d := { f with v := fun r c => flatStage st ws f r c (defectStage st (bit (wordAt ws 1) 17) f r c) }
  let b := bits (wordAt ws 1) 27 26
  if b = 1 then binned 2 d else if b = 2 then binned 16 d else d

/-- The levels of the pyramid (Table 14-3). -/
def pyramid : Nat → Frame → List Frame
  | 0, _ => []
  | n + 1, f => f :: pyramid n (binned 2 f)

/-- All values of a frame in row order. -/
def Frame.values (f : Frame) : List Nat := (List.range f.rows).flatMap fun r => (List.range f.cols).map fun c => f.v r c

/-- Normalisation of a value (R561). -/
def normalise (st : State) (ws : List Word) (v : Nat) : Narrowed :=
  let norm := (wordAt ws 5).toNat
  narrow (bits (wordAt ws 1) 23 20)
    (Num.add (Num.mul (numOf Fmt.bf16 (st.rd16 norm)) (.fin false v 0)) (Num.ofInt (signed 16 (st.rd16 (norm + 2)))))

/-- The statistics record but for its TICK (Table 14-5). -/
def statsRecord (l : List Nat) (sat : Nat) : List Byte :=
  leBytes 4 l.length ++ leBytes 2 (l.foldl min (l.headD 0)) ++ leBytes 2 (l.foldl max 0) ++ leBytes 4 sat ++ leBytes 8 l.sum ++
    List.replicate 8 0 ++ (List.range 256).flatMap fun b => leBytes 4 (l.filter fun v => v / 4 == b).length

/-- Write the levels at consecutive 16-byte boundaries (R562). -/
def writeLevels (st : State) (ws : List Word) : Nat → List Frame → Prog
  | _, [] => .skip
  | a, f :: rest =>
    .seq (.mem a (f.values.map fun v => BitVec.ofNat 8 (normalise st ws v).code))
      (writeLevels st ws (a + ceilDiv (f.rows * f.cols) 16 * 16) rest)

/-- A PIXEL command's results: levels, statistics, flags (R558 to R565). -/
def pixelResults (ws : List Word) : Prog :=
  .look fun st =>
    let l0 := levelZero st ws
    let levels := pyramid (bits (wordAt ws 1) 25 24) l0
    let stat := (wordAt ws 4).toNat
    Prog.all [
      writeLevels st ws (wordAt ws 3).toNat levels,
      Prog.when (bit (wordAt ws 1) 19) (.seq (.mem (stat + 4) (statsRecord l0.values (satCount st ws))) (store32 stat st.tick.num)),
      applyMarks (marksOf (levels.flatMap fun f => f.values.map (normalise st ws)))]

/-- PIXEL_COMPLETE (R562): the source is complete, and its results are written. -/
def execPixelComplete (s : State) : Host.Outcome State Fault Refusal :=
  Prog.next (match s.eng.pe, pixelCommand s with
    | some r, some ws => Prog.when (!pixelWaits s || (frameArrived s && !s.img.browned)) (.seq (pixelResults ws) (advance .pe r ws.length))
    | _, _ => .skip) s

/-- REASON of a missing frame (Table 14-2). -/
def missReason (s : State) : Nat :=
  if s.img.taken then (if s.img.browned then 3 else 4)
  else if s.img.armPassed then (if s.img.armOk then 1 else 2)
  else if imagerEnabled s && s.img.ready then 1 else 2

/-- An edge aborts a PIXEL command that waits for its frame (R555). -/
def frameMiss : Prog :=
  .look fun s => Prog.when (pixelWaits s) (Prog.all [
    .reg Reg.pixMiss (place (s.tick.num.toNat % 65536) 31 16 ||| place (missReason s) 3 0),
    setFlag .frameMiss, .look fun t => raise 0x0A01 1 (t.stored Reg.pixMiss)])

/-- A new tick has no frame yet. A STROBE pulse of the old frame is over. -/
def newFrame : Prog :=
  modImg fun i => { i with taken := false, armPassed := false, armOk := false, exposing := false, exposed := false, strobe := false,
                           browned := false, rows := [], sat := 0 }

end Sys2Proof.Machine
end

