-- ==== Sys2Proof/Machine/Watch.lean ====
section
/-! DEFINITION. The standing model and its watch frames (R568 to R584): the model's checks, its copy and its programming, and the
evaluation of its output record. -/

namespace Sys2Proof.Machine

/-- A standing model area header (Table 14-6), read at an address. -/
structure AreaHeader where
  magic : Word
  size  : Nat
  crc   : Word
  load  : Nat
  out   : Nat
  deriving DecidableEq, Repr

/-- The header at an address. -/
def areaHeader (s : State) (a : Nat) : AreaHeader :=
  { magic := s.rd32 a, size := (s.rd32 (a + 4)).toNat, crc := s.rd32 (a + 8), load := (s.rd32 (a + 12)).toNat,
    out := (s.rd32 (a + 16)).toNat }

/-- MAGIC, SIZE and both regions (R574). -/
def areaHeaderOk (h : AreaHeader) : Bool :=
  h.magic == 0x4D574B53 && decide (64 ≤ h.size) && decide (h.size ≤ 5242848) && decide (h.load % 16 = 0) && inShared h.load h.size &&
    decide (h.out % 16 = 0) && inShared h.out 16 && !overlaps h.load h.size h.out 16

/-- Period of watch frames in µs (R568, R569): WDIV ticks while edges occur, else WPER ms. DEDUCED, log entry 21. -/
def watchPeriod (s : State) : Nat :=
  if s.tick.edges then s.fld Reg.watchCtrl 7 0 * s.period else s.fld Reg.watchCtrl 19 8 * 1000

/-- The image of a standing model that lies at LOAD_ADDR (R574), steps 2, 4 and 5 of Table 8-11 among its conditions. -/
def modelImageOk (s : State) (load size : Nat) : Bool :=
  let im := imageAt s load size
  headerOk s load size && (badEntry im (slotOk s im)).isNone && (badEntry im (entryOk s im [])).isNone && decide (im.minCores ≤ 4) &&
    im.ng == 1 && im.gradeLen == 0 && im.mapLen == 0 && im.slots.all (fun x => x.eng == 0 || x.eng == 3 || x.eng == 5) &&
    decide (im.pMin ≤ watchPeriod s) && (s.imagerPresent || !bindsImager s im)

/-- The state with a model's image copied to LOAD_ADDR. -/
def withModel (s : State) (load : Nat) (image : List Byte) : State := (Prog.mem load image).run s

/-- Whether a header and its image are a valid standing model (R574). -/
def modelOk (s : State) (h : AreaHeader) (image : List Byte) : Bool :=
  areaHeaderOk h && h.crc == crc32 image && modelImageOk (withModel s h.load image) h.load h.size

/-- WM_BAD and its record (R575, R577, Table 18-1). -/
def wmBadMarks : Prog := .seq (setFlag .wmBad) (raise 0x0A03 2 0)

/-- Entry to WATCH: the model is copied to LOAD_ADDR and judged (R575). -/
def copyModel : Prog :=
  .look fun s =>
    let h := areaHeader s Mram.model
    if !areaHeaderOk h then .seq (modWm fun w => { w with valid := false, image := none }) wmBadMarks
    else
      let image := s.rdBytes (Mram.model + 32) h.size
      let ok := modelOk s h image
      Prog.all [
        .mem h.load image,
        .look fun t => modWm fun w => { w with
          valid := ok, image := if ok then some (imageAt t h.load h.size) else none, outAddr := h.out },
        Prog.when (!ok) wmBadMarks]

/-- Leaving WATCH (R583): PRESENT and both counts become 0. No rule clears WM_VALID before the next entry (log entry 23). -/
def leaveWatch : Prog :=
  modWm fun w => { w with present := false, onCount := 0, offCount := 0, frame := false }

/-- What GO takes from shared SRAM (R576): header and image, when both lie there. -/
def progBytes (s : State) (src size : Nat) : List Byte := if inShared src (32 + size) then s.rdBytes src (32 + size) else []

/-- GO (R576, R577): the node checks the source and, when it passes, writes the area with MAGIC zeroed first. -/
def goWrite : Prog :=
  .look fun s => Prog.when s.wm.job.isNone (
    let src := (s.stored Reg.wmProgSrc).toNat
    let h := areaHeader s src
    let ok := inShared src 32 && areaHeaderOk h && inShared src (32 + h.size) && modelOk s h (s.rdBytes (src + 32) h.size)
    .seq (store32 Mram.model 0) (modWm fun w => { w with job := some { bytes := if ok then progBytes s src h.size else [], ok := ok } }))

/-- GO (R576). -/
def execGo (s : State) : Host.Outcome State Fault Refusal := Prog.next goWrite s

/-- WM_PROG_COMPLETE (R577): the area is written whole, or WM_BAD is set and MAGIC stays 0. What a write that fails its verify
leaves behind MAGIC is free (log entry 9). -/
def execWmProgComplete (verified : Bool) (s : State) : Host.Outcome State Fault Refusal :=
  Prog.next (match s.wm.job with
    | none => .skip
    | some j =>
      .seq (modWm fun w => { w with job := none })
        (if j.ok && verified then .mem Mram.model j.bytes
         else Prog.all [
          .mem (Mram.model + 4) ((List.range (j.bytes.length - 4)).map fun i => Config.freeByte (s.free + i)),
          Prog.times (j.bytes.length - 4) .draw, wmBadMarks])) s

/-- The dwell counts after a frame's PRES (R580). -/
def dwellCounts (s : State) (pres : Int) : Nat × Nat :=
  (if signed 16 (s.fld Reg.wmPres 15 0) ≤ pres then min 256 (s.wm.onCount + 1) else 0,
   if pres < signed 16 (s.fld Reg.wmPres 31 16) then min 256 (s.wm.offCount + 1) else 0)

/-- PRESENT after a frame, from its counts (R580). -/
def presentAfter (s : State) (n : Nat × Nat) : Bool :=
  if s.wm.present then decide (n.2 < s.fld Reg.wmDwell 15 8) else decide (s.fld Reg.wmDwell 7 0 ≤ n.1)

/-- A watch EVENT with its cause (R581, R582). On the head its own EVENT sets the cause (log entry 14). -/
def watchEvent (f : Flag) (code : Nat) (data : Word) : Prog :=
  .look fun s => .seq (setFlagIf (!s.isHead) f) (sendEvent code data)

/-- Evaluate the output record of a completed watch frame (R579 to R582). -/
def evalFrame : Prog :=
  .look fun s =>
    let pres := s.rd16 s.wm.outAddr
    let gest := (s.rd8 (s.wm.outAddr + 2)).toNat
    let score := s.rd16 (s.wm.outAddr + 4)
    let n := dwellCounts s (signed 16 pres)
    let present := presentAfter s n
    let recent := (s.wm.recent.map fun x => (x.1, x.2 + 1)).filter fun x => decide (x.2 ≤ 255)
    let raised := decide (gest ≠ 0) && decide (signed 16 (s.fld Reg.wmGest 15 0) ≤ signed 16 score) && 
      !(recent.any fun x => x.1 == gest && decide (x.2 ≤ s.fld Reg.wmGest 23 16))
    Prog.all [
      .reg Reg.wmLast (place gest 23 16 ||| place pres 15 0),
      modWm fun w => { w with
        present := present, onCount := n.1, offCount := n.2, recent := if raised then (gest, 0) :: recent else recent },
      Prog.when (s.wm.present != present) (watchEvent .irqPresence 0x0301 (placeBit present 16 ||| place pres 15 0)),
      Prog.when raised (watchEvent .irqGesture 0x0302 (place gest 23 16 ||| place score 15 0))]

end Sys2Proof.Machine
end

