-- ==== Sys2Proof/Machine/Levels.lean ====
section
/-! DEFINITION. Service levels (chapter 3): SET_LEVEL, power-up, and what a change of level takes with it. -/

namespace Sys2Proof.Machine

/-- A tick runs: edges occur, or a FREE_RUN pass is in progress (R74). -/
def State.ticking (s : State) : Bool := s.tick.running || s.tick.pass

/-- Every engine drops the rest of its list, and the XE its inbound traffic (R78). -/
def dropRuns : Prog :=
  .seq (modEng fun e => { e with me0 := none, me1 := none, ve := none, xe := none, pe := none }) (modXe fun x => { x with inbound := none })

/-- All work of the node is cancelled (R78, R387). -/
def abortWork : Prog := .seq cancelWork dropRuns

/-- The schedule stops as though STOP had been received and no work is left (R76, R122). -/
def stopSchedule : Prog :=
  modTick fun t => { t with sched := false, startAt := none, stopping := false, entries := [], wholeTick := false, pass := false }

/-- Memory that lies in one range of Table 0-4 is lost. -/
def loseRange : Region → Prog
  | .shared => .lose 0 0x01000000
  | .local => .lose 0x01000000 0x02000000
  | .mram => .skip
  | .dram => .lose 0x10000000 0x18000000

/-- The node leaves RUN: the schedule stops, the image goes, DRAM and local SRAM are lost (R122, R348, R533). -/
def leaveRun : Prog :=
  Prog.all [
    abortWork, stopSchedule, modTick fun t => { t with incomplete := true },
    modEng fun e => { e with image := none }, modEn fun e => { e with cur := 0 }, .reg Reg.stgMapHash 0,
    modSm fun m => { m with moving := false }, loseRange .local, loseRange .dram]

/-- The node enters KEEP: what is not in the keeper set stops, and shared SRAM is lost (R122, R591, R623, R654; log entry 6). -/
def enterKeep : Prog := Prog.all [adcKeep, imagerOff, loseRange .shared, loseRange .local]

/-- The service level changes (R39, R119). A change that was pending is over. -/
def enterLevel (l : Level) : Prog :=
  .look fun s =>
    .seq (modPwr fun p => { p with pend := none, pendReady := false })
      (Prog.when (s.pwr.level != l) (Prog.all [
        Prog.when (s.pwr.level == .run) leaveRun,
        Prog.when (s.pwr.level == .watch) (Prog.all [abortWork, modTick fun t => { t with entries := [] }, leaveWatch]),
        newFrame, modPwr fun p => { p with level := l },
        Prog.when (l == .keep) enterKeep,
        Prog.when (l != .keep) imagerOn,
        Prog.when (l == .watch) copyModel]))

/-- A change of level that is due takes effect (R119): its power-up has completed. -/
def dueLevel : Prog :=
  .look fun s =>
    match s.pwr.pend with
    | some l => Prog.when s.pwr.pendReady (enterLevel l)
    | none => .skip

/-- A change of level between edges begins a thermal interval and closes no tick (R307, R747). -/
def levelNow (l : Level) : Prog := Prog.all [enterLevel l, dropSamples, modTick fun t => { t with metered := false }]

/-- The level that a code names. -/
def levelOf (n : Nat) : Option Level :=
  if n = 0 then some .keep else if n = 1 then some .watch else if n = 2 then some .run else none

/-- A change of level is accepted (R119, Table 3-8): one to a higher level powers up first. The level that the node is at is no
change (log entry 82). -/
def askLevel (l : Level) : Prog :=
  .look fun s =>
    let up := decide (levelCode s.pwr.level < levelCode l)
    if s.pwr.level = l then .skip
    else if up || s.ticking then modPwr fun p => { p with pend := some l, pendReady := !up } else levelNow l

/-- SET_LEVEL (R119, R120, R305). -/
def opSetLevel (s : State) (r : Req) : Answer :=
  if s.pwr.pend.isSome then .just St.busy
  else
    match levelOf (field r.payload 0 1) with
    | none => .just St.badParam
    | some l =>
      if r.payload ≠ [] ∧ (!s.allows l || (s.en.hold && l != .keep)) then .just St.denied
      else if r.payload.length ≠ 4 ∨ !zeroAt r.payload 1 3 then .just St.badParam
      else .now St.ok [] (askLevel l)

/-- SET_LEVEL (R119). -/
def execSetLevel (r : Req) (s : State) : Host.Outcome State Fault Refusal := Prog.next (serve 0x1C opSetLevel r) s

/-- LEVEL_POWER_UP_COMPLETE (R119): the level changes now, or at the next edge while a tick runs. -/
def execLevelPowerUpComplete (s : State) : Host.Outcome State Fault Refusal :=
  Prog.next (match s.pwr.pend with
    | some l =>
      if s.pwr.pendReady then .skip
      else if s.ticking then modPwr fun p => { p with pendReady := true } else levelNow l
    | none => .skip) s

end Sys2Proof.Machine
end

