-- ==== Sys2Proof/Machine/Report.lean ====
section
/-! DEFINITION. The report phase (chapter 13): a member's TICK_STATE, the head's result page, late states, RESULT_RD. -/

namespace Sys2Proof.Machine

/-- A tick's report is due from this node: its settings are in force and the schedule runs in this tick (R532, R538). -/
def State.reports (s : State) : Bool := s.res.valid && s.pwr.level == .run && !s.tick.entries.isEmpty

/-- ENTRY of RES_CTRL. -/
def State.reportEntry (s : State) : Nat := s.fld Reg.resCtrl 8 0

/-- DATA of this node's TICK_STATE (Table 13-5). -/
def tickState (s : State) (incomplete : Bool) : Word :=
  placeBit s.tick.exact 5 ||| placeBit s.tick.untrusted 4 ||| placeBit s.tick.lost 3 |||
    placeBit (s.tick.incomplete || incomplete) 2 ||| place s.en.cur 1 0

/-- The states in the page of the running tick: the head's own and those that have arrived (R535). -/
def pageStates (s : State) (incomplete : Bool) : List (Nat × Word) :=
  (s.link.addr.toNat, tickState s incomplete) ::
    ((List.range 32).filterMap fun i =>
      if i + 1 = s.link.addr.toNat then none
      else (s.res.states.reverse.find? fun x => x.addr == i + 1 && x.tick == s.tick.num).map fun x => (i + 1, x.data))

/-- Expected addresses without a state (R535). -/
def missingStates (s : State) (have' : List (Nat × Word)) : List Nat :=
  ((List.range 32).map fun i => i + 1).filter fun a => bit (s.stored Reg.resExpect) (a - 1) && !have'.any fun x => x.1 == a

/-- A mask of addresses: bit a - 1. -/
def addrMask (l : List Nat) : Nat := fromBits ((List.range 32).map fun i => decide (i + 1 ∈ l))

/-- Addresses whose state has a bit. -/
def withBit (have' : List (Nat × Word)) (n : Nat) : List Nat := (have'.filter fun x => bit x.2 n).map fun x => x.1

/-- PAGE_STAT (Table 13-4). -/
def pageStat (s : State) (complete : Bool) (have' : List (Nat × Word)) : Word :=
  let missing := missingStates s have'
  placeBit complete 31 ||| placeBit (!complete || !missing.isEmpty || !(withBit have' 2).isEmpty) 30 |||
    placeBit (!(withBit have' 3).isEmpty) 29 ||| placeBit (!(withBit have' 4).isEmpty) 28 |||
    placeBit (missing.isEmpty && have'.all fun x => bit x.2 5) 27 ||| place have'.length 21 16 |||
    place (have'.foldl (fun m x => max m (bits x.2 1 0)) 0) 1 0

/-- The page of the running tick: header and working page (Table 13-3, R531). -/
def pageBytes (s : State) (complete : Bool) (have' : List (Nat × Word)) : List Byte :=
  let grades := have'.foldl (fun g x => g + bits x.2 1 0 * 4 ^ (x.1 - 1)) 0
  wordBytes s.tick.num ++ wordBytes (pageStat s complete have') ++
    leBytes 4 (addrMask (missingStates s have' ++ withBit have' 2)) ++ leBytes 4 (addrMask (withBit have' 3)) ++
    leBytes 4 (addrMask (withBit have' 4)) ++ leBytes 8 grades ++ [0, 0, 0, 0] ++
    s.rdBytes ((s.stored Reg.resWork).toNat + 32) (s.fld Reg.resLen 15 0 - 32)

/-- The page that is overwritten next: one that holds no tick, else the older one; true for PAGE1 (R531). -/
def olderPage (r : Res) : Bool := if r.page0.isNone then false else if r.page1.isNone then true else !r.newest

/-- Address of a held page. -/
def pageAddr (s : State) (p : Bool) : Nat := (s.stored (if p then Reg.resPage1 else Reg.resPage0)).toNat

/-- Missing states are marked (R535). -/
def markMissing (s : State) (have' : List (Nat × Word)) : Prog :=
  let m := missingStates s have'
  Prog.when (!m.isEmpty) (Prog.all [
    setFlag .stateMissing, addSat Reg.resCnt0 31 16 (m.length - 1), raise 0x0001 1 (place (addrMask m) 31 0)])

/-- A page becomes the newest (R531). -/
def publish (p : Bool) (tick : Word) (bytes : List Byte) : Prog :=
  .look fun s => Prog.all [
    .mem (pageAddr s p) bytes,
    modRes fun r => { r with newest := p, page0 := if p then r.page0 else some tick, page1 := if p then some tick else r.page1, since := true },
    setFlag .irqResult]

/-- The report of the tick falls due when ENTRY completes: a member sends its TICK_STATE, the head starts its copy (R531, R532,
R535). -/
def reportDone (entry : Nat) : Prog :=
  .look fun s => Prog.when (s.reports && !s.res.done && decide (entry = s.reportEntry))
    (.seq (modRes fun r => { r with done := true })
      (if s.isHead then
        let have' := pageStates s false
        .seq (markMissing s have')
          (modRes fun r => { r with copy := some (olderPage r, s.tick.num, pageBytes s true have'), states := [] })
      else sendEventFrame 0x0201 (tickState s false)))

/-- RESULT_PAGE_COPY_COMPLETE (R531). -/
def execResultPageCopyComplete (s : State) : Host.Outcome State Fault Refusal :=
  Prog.next (match s.res.copy with
    | some (p, tick, bytes) => .seq (modRes fun r => { r with copy := none }) (publish p tick bytes)
    | none => .skip) s

/-- Step 1 of a closing edge, when ENTRY has not completed: TICK_STATE with INCOMPLETE, or the page as it stands (R532, R538). -/
def reportAtEdge : Prog :=
  .look fun s => Prog.when (s.reports && !s.res.done)
    (if s.isHead then
      let have' := pageStates s true
      Prog.all [
        markMissing s have', publish (olderPage s.res) s.tick.num (pageBytes s false have'),
        modRes fun r => { r with done := true, states := [] },
        setFlag .reportAbort, raise 0x0002 1 (pageStat s false have')]
    else .seq (modRes fun r => { r with done := true }) (sendEventFrame 0x0201 (tickState s true)))

/-- A late state ORed into the masks and PAGE_STAT of a page's header (R536). -/
def mergedHeader (addr : Nat) (inc lost bad : Bool) (page : List Byte) : List Byte :=
  let w := fun off => BitVec.ofNat 32 (field page off 4)
  let m := fun (b : Bool) => placeBit b (addr - 1)
  page.take 4 ++ wordBytes (w 4 ||| placeBit inc 30 ||| placeBit lost 29 ||| placeBit bad 28) ++ wordBytes (w 8 ||| m inc) ++
    wordBytes (w 12 ||| m lost) ++ wordBytes (w 16 ||| m bad) ++ page.drop 20

/-- What a state changes in the page of its tick: the page of a copy that runs, or a held page; none where no page holds the tick
(R536). -/
def mergeState (s : State) (addr : Nat) (tick : Word) (inc lost bad : Bool) : Option Prog :=
  let held := fun p => some (.mem (pageAddr s p) (mergedHeader addr inc lost bad (s.rdBytes (pageAddr s p) 32)))
  match s.res.copy.filter fun c => c.2.1 == tick with
  | some (p, t, bytes) => some (modRes fun r => { r with copy := some (p, t, mergedHeader addr inc lost bad bytes) })
  | none => if s.res.page0 = some tick then held false else if s.res.page1 = some tick then held true else none

/-- The head's own overrun marks its address, and with it the page, incomplete in the page of the tick (R77, R80). -/
def markPage (addr : Nat) (tick : Word) : Prog := .look fun s => (mergeState s addr tick true false false).getD .skip

/-- A TICK_STATE or an overrun EVENT reaches the head: ORed into the page of a copy that runs or into a held page, kept for the page of
the running tick, or discarded and counted (R535, R536). -/
def takeState (addr : Nat) (tick data : Word) (isState : Bool) : Prog :=
  .look fun s =>
    let inc := if isState then bit data 2 else true
    let lost := isState && bit data 3
    let bad := isState && bit data 4
    match mergeState s addr tick inc lost bad with
    | some p => .seq p (setFlag .lateState)
    | none =>
      if tick = s.tick.num ∧ s.reports ∧ !s.res.done ∧ isState then
        modRes fun r => { r with states := r.states ++ [{ addr := addr, tick := tick, data := data }] }
      else addSat Reg.resCnt1 15 0 1

/-- The newest page's address (R537). -/
def newestPage (s : State) : Nat := pageAddr s s.res.newest

/-- RESULT_RD (R220, R537, R742). -/
def opResultRd (s : State) (r : Req) : Answer :=
  let off := field r.payload 0 4
  let count := field r.payload 4 2
  let page := newestPage s
  if !s.res.since then .just St.denied
  else if r.payload.length ≠ 8 ∨ !zeroAt r.payload 6 2 ∨ 4088 < count ∨ s.fld Reg.resLen 15 0 < off + count then .just St.badParam
  else if !inMap page 8 ∨ !inMap (page + off) count then .just St.badAddr
  else if !s.poweredAll page 8 ∨ !s.poweredAll (page + off) count then .just St.denied
  else .now St.ok (s.rdBytes page 8 ++ s.rdBytes (page + off) count) .skip

/-- RESULT_RD (R537). -/
def execResultRd (r : Req) (s : State) : Host.Outcome State Fault Refusal := Prog.next (serve 0x30 opResultRd r) s

end Sys2Proof.Machine
end

