-- ==== Sys2Proof/Machine/Slots.lean ====
section
/-! DEFINITION. Slot entries (chapter 2): when an entry starts, waits, is skipped or completes. -/

namespace Sys2Proof.Machine

/-- The engine that holds an entry's list, by its ENG code (Table 2-2); an entry on both matrix engines stands in ME0. -/
def slotEngine (eng : Nat) : Engine :=
  if eng = 1 then .me1 else if eng = 3 then .ve else if eng = 4 then .xe else if eng = 5 then .pe else .me0

/-- Whether every engine of an ENG code is free. -/
def engFree (e : Eng) (eng : Nat) : Bool :=
  (e.run? (slotEngine eng)).isNone && (decide (eng ≠ 2) || (e.run? .me1).isNone)

/-- What became of an entry. -/
def State.entry (s : State) (n : Nat) : Entry := s.tick.entries[n]?.getD .notDue

/-- Set what became of an entry. -/
def setEntry (n : Nat) (e : Entry) : Prog := modTick fun t => { t with entries := t.entries.set n e }

/-- ENG code of an entry. -/
def State.engOf (s : State) (n : Nat) : Nat := ((s.slot? n).map fun x => x.eng).getD 0

/-- Whether entries may start: the schedule runs, or a watch frame does (R59, R76, R568). -/
def State.slotsRun (s : State) : Bool := (s.tick.sched && s.pwr.level == .run) || s.wm.frame

/-- An entry starts on its engine (R59, R313). -/
def startEntry (n : Nat) : Prog :=
  .look fun s =>
    match s.slot? n with
    | none => .skip
    | some x =>
      let r : Run := { entry := n, list := x.list, len := x.len, pos := 0, both := decide (x.eng = 2), block := .none, ended := false, waited := false }
      Prog.all [
        modEng (setOwn (slotEngine x.eng) (some r)), setEntry n .started,
        modTick fun t => { t with started := t.started + 1, last := n }, showPos (slotEngine x.eng) r 0]

/-- Whether an earlier entry waits for an engine of entry n: entries of one engine start in order (R59). -/
def State.behind (s : State) (n : Nat) : Bool :=
  (List.range n).any fun m => s.entry m == .waiting && shareEngine (s.engOf m) (s.engOf n)

/-- Whether entry n may start now. -/
def State.canStart (s : State) (n : Nat) : Bool := engFree s.eng (s.engOf n) && !s.behind n

/-- Waiting entries whose engine is free start, in table order (R60). -/
def startWaiting : Prog :=
  .look fun s => Prog.each (List.range s.tick.entries.length) fun n =>
    .look fun t => Prog.when (t.slotsRun && !t.tick.guard && t.entry n == .waiting && t.canStart n) (startEntry n)

/-- Whether entry n may start in a FREE_RUN pass (R65): the preceding entry has started, and its engine is free. -/
def State.passReady (s : State) (n : Nat) : Bool :=
  s.entry n == .notDue && (n == 0 || s.entry (n - 1) == .started || s.entry (n - 1) == .done) && engFree s.eng (s.engOf n)

/-- Entries of a FREE_RUN pass start (R65). -/
def startReady : Prog :=
  .look fun s => Prog.each (List.range s.tick.entries.length) fun n =>
    .look fun t => Prog.when (t.tick.sched && t.tick.pass && t.passReady n) (startEntry n)

/-- What may start once an engine has become free. -/
def startNext : Prog := .look fun s => if s.freeRun && !s.wm.frame then startReady else startWaiting

/-- SLOT_START (R59, R60, R65): an entry's START arrives in tick mode. -/
def execSlotStart (entry : Nat) (s : State) : Host.Outcome State Fault Refusal :=
  Prog.next (Prog.when (s.slotsRun && (!s.freeRun || s.wm.frame) && !s.tick.guard && decide (entry < s.tick.entries.length) &&
      s.entry entry == .notDue)
    (if s.canStart entry then startEntry entry else .seq (setEntry entry .waiting) (setFlag .slotLate))) s

/-- Whether an entry's work still runs (R61, R320): it has started and not completed, or work items outlive its SYNC timeout. -/
def State.entryRuns (s : State) (n : Nat) : Bool := s.entry n == .started || (s.entry n == .done && s.outstanding n)

/-- RESERVATION_END (R61). -/
def execReservationEnd (entry : Nat) (s : State) : Host.Outcome State Fault Refusal :=
  Prog.next (Prog.when ((!s.freeRun || s.wm.frame) && s.entryRuns entry) (setFlag .slotLate)) s

/-- Entries that have not started at the guard start (R62). -/
def State.unstarted (s : State) : List Nat :=
  (List.range s.tick.entries.length).filter fun n => s.entry n == .notDue || s.entry n == .waiting

/-- GUARD_START (R62, R63, R533). DESIGN CHOICE, log entry 114: entries that STOP has kept from starting are not skipped in the sense of R62, so they set
neither SLOT_SKIP nor the incomplete mark. -/
def execGuardStart (s : State) : Host.Outcome State Fault Refusal :=
  Prog.next (Prog.when (!s.freeRun || s.wm.frame) (.seq (modTick fun t => { t with guard := true })
    (Prog.when s.slotsRun (.seq
      (Prog.each s.unstarted fun n => .seq (setEntry n .skipped) (setFlag .slotSkip))
      (modTick fun t => { t with incomplete := t.incomplete || !s.unstarted.isEmpty }))))) s

/-- A watch frame all of whose entries have completed is evaluated (R579). -/
def frameDone : Prog :=
  .look fun s => Prog.when (s.wm.frame && s.tick.entries.all fun e => e == .done) (.seq evalFrame (modWm fun w => { w with frame := false }))

/-- An engine's entry completes (R320): its engine is free, its report may be due, and what waits may start (R60, R531). -/
def entryDone (e : Engine) (r : Run) : Prog :=
  Prog.all [setEntry r.entry .done, endRun e, reportDone r.entry, frameDone, startNext]

/-- Whether a list has issued every command and every work item so issued has completed (R320). -/
def State.listDone (s : State) (r : Run) : Bool :=
  (r.ended || decide (r.len ≤ r.pos)) && r.block == .none && !s.outstanding r.entry

/-- ENTRY_COMPLETE (R320). An entry that a SYNC timeout has completed already frees its engine (R59, R334). -/
def execEntryComplete (e : Engine) (s : State) : Host.Outcome State Fault Refusal :=
  Prog.next (match s.runOf e with
    | some r => Prog.when (s.listDone r) (if s.entry r.entry == .done then .seq (endRun e) startNext else entryDone e r)
    | none => .skip) s

/-- An entry counts as complete although work items of it still run: its engine stays taken until they have completed (R59, R334). -/
def entryCounts (e : Engine) (r : Run) : Prog :=
  Prog.all [modRun e fun x => { x with ended := true, block := .none }, setEntry r.entry .done, reportDone r.entry, frameDone]

/-- SYNC_TMO (R334, R533): the rest of the list is dropped, and its entry counts as complete. -/
def execSyncTmo (e : Engine) (s : State) : Host.Outcome State Fault Refusal :=
  Prog.next (match s.runOf e with
    | some r =>
      match r.block with
      | .sync _ _ tmo => Prog.when (decide (tmo ≠ 0)) (Prog.all [
          setFlag .syncTmo, raise 0x0701 1 (s.stored (Reg.engPos0 + 4 * engineIndex e)),
          modTick fun t => { t with incomplete := true }, if s.outstanding r.entry then entryCounts e r else entryDone e r])
      | _ => .skip
    | none => .skip) s

/-- Entries of the image whose slot table runs, none of them due yet. -/
def freshEntries (s : State) : List Entry := List.replicate ((s.schedImage.map fun im => im.slots.length).getD 0) .notDue

/-- SM_MOVE_COMPLETE (R520). -/
def execSmMoveComplete (s : State) : Host.Outcome State Fault Refusal :=
  Prog.next (modSm fun m => { m with moving := false }) s

end Sys2Proof.Machine
end

