-- ==== Sys2Proof/Machine/Ticks.lean ====
section
/-! DEFINITION. The tick (chapter 2): the edge sequence of Table 2-4, the sources of edges and their loss, the end of ticking,
FREE_RUN pass ends, START and STOP, COMMIT and COMMIT_AT. -/

namespace Sys2Proof.Machine

/-- Whether work of the tick still runs or is queued (R77, R336). -/
def State.working (s : State) : Bool := engines.any (fun e => (s.runOf e).isSome) || s.dsp.holdsWork

/-- Token frames of a closing tick are dropped from a port; a SEQSYNC names the next frame that will be sent (R159). -/
def dropTokens (p : Port) (tick : Word) : Prog :=
  .look fun s =>
    let q := s.port p
    let gone := fun f : TxFrame => creditClass1 f.typ && decide (bits f.win 27 20 = tick.toNat % 256)
    let lost := q.replay.filter gone
    let next := ((q.replay.dropWhile fun f => !gone f).find? fun f => !gone f).map fun f => f.seq
    Prog.all [
      modPort p fun q => { q with replay := q.replay.filter (fun f => !gone f), waiting := q.waiting.filter fun f => !gone f },
      Prog.each (q.waiting.filter gone) releaseHeld,
      Prog.when (!lost.isEmpty || q.waiting.any gone) (sendSeqsync p (next.getD q.txSeq) (lost ++ q.waiting.filter gone).length)]

/-- The marks of an overrun (R77, R80, R572). On a head whose ENTRY had completed, the page of the tick is marked incomplete too (Table 13-3).
-/
def overrunMarks : Prog :=
  .look fun s => Prog.all [
    .reg Reg.tickOvrNum s.tick.num, setFlag .tickOverrun, raise 0x0101 1 s.tick.num,
    modTick fun t => { t with incomplete := true },
    if s.isHead then Prog.when s.res.done (markPage s.link.addr.toNat s.tick.num) else sendEventFrame 0x0202 s.tick.num,
    setFlagIf s.wm.frame .watchOvr]

/-- Step 1 of Table 2-4: the closing tick's work is aborted and its report is made as it stands (R76 to R80, R532, R538). -/
def stepAbort : Prog :=
  .look fun s => Prog.all [
    frameMiss,
    Prog.when s.working (Prog.all [
      Prog.when (!s.tick.stopping) overrunMarks, abortWork, dropTokens .up s.tick.num, dropTokens .dn s.tick.num]),
    reportAtEdge, modTick fun t => { t with stopping := false }, modWm fun w => { w with frame := false }]

/-- The bytes of a collector's result array (Table 10-5). -/
def collArray (ctrl : Word) (k : Coll) (edge : Word) : List Byte :=
  let nch := if bit ctrl 30 then bits ctrl 26 16 else 1
  wordBytes edge ++ leBytes 4 (bits ctrl 15 0) ++ leBytes 2 nch ++ leBytes 2 (fromBits [k.nan, k.trunc]) ++ [0, 0, 0, 0] ++
    (List.range nch).flatMap fun c => wordBytes (((k.maxima.find? fun m => m.1 == c).map fun m => m.2).getD 0)

/-- A collector's edge (R439, R441, R442): a full window is written and starts again. -/
def collEdge (edge : Word) (n : Nat) : Prog :=
  .look fun s =>
    let ctrl := s.stored (Reg.qsColCtrl0 + 4 * n)
    let k := s.qs.coll[n]?.getD Coll.reset
    let set := fun c => modQs fun q => { q with coll := q.coll.set n c }
    Prog.when (bit ctrl 31)
      (if k.window + 1 < bits ctrl 15 0 then set { k with window := k.window + 1 }
       else
        let a := (s.stored (Reg.qsColAddr0 + 4 * n)).toNat
        let bs := collArray ctrl k edge
        Prog.all [
          Prog.when (s.pwr.level != .keep) (.mem a (bs.take (0x01000000 - a))),
          setFlagIf (decide (0x01000000 < a + bs.length)) .collTrunc, set Coll.reset])

/-- Between steps 1 and 2: every collector counts the edge (R439). -/
def stepCollect (edge : Word) : Prog := Prog.each (List.range 16) (collEdge edge)

/-- A set becomes live outside an edge: its emptying of the ring concerns no edge's move (R516, R517). -/
def makeLiveNow (edge : Word) : Prog := .seq (makeLive edge false) (modSm fun m => { m with emptied := false })

/-- Step 2: a set that is due becomes live, and a level change that is due takes effect (R74, R119, R247). -/
def stepCommit (edge : Word) : Prog :=
  .seq (.look fun s => Prog.when (s.stg.pend.any fun p => !p.byAt || p.tick == edge) (makeLive edge false)) dueLevel

/-- EN in TICK_CTRL. -/
def State.tickEn (s : State) : Bool := s.flag Reg.tickCtrl 0

/-- SRC in TICK_CTRL: TICK_IN. -/
def State.srcIn (s : State) : Bool := s.flag Reg.tickCtrl 2

/-- Why an edge occurs. -/
inductive EdgeKind where
  /-- From the tick source, or from a TICK set. -/
  | source
  /-- Flywheeled on the head (R84). -/
  | flywheel
  /-- A member's own edge (R87). -/
  | missed
  /-- A FREE_RUN pass end (R67). -/
  | pass
  deriving DecidableEq, Repr

/-- The schedule stops as STOP stops it (R76, R86). A START that waits for its edge while no schedule runs stays armed (R347; log
entry 26). -/
def haltSchedule : Prog :=
  modTick fun t => { t with sched := false, startAt := if t.sched then none else t.startAt, wholeTick := false }

/-- The schedule stops for good: a START that waits for its edge is dropped too (R86, R304; log entry 26). -/
def endSchedule : Prog := .seq haltSchedule (modTick fun t => { t with startAt := none })

/-- Step 3: TICK_NUM, TICK_OFFSET and the count of flywheeled edges (R69, R72, R85 to R87, R748). What step 4 makes of a cross
check belongs to the new tick (R646). Flywheeling is over when the commit of this edge has chosen another source of edges (R46). -/
def stepNumber (edge : Word) (k : EdgeKind) : Prog :=
  .look fun s =>
    let own := k == .flywheel || k == .missed
    let fly := if own then min 16 (s.tick.flyCount + 1) else 0
    let stop := own && decide (s.tick.flyCount < 16) && fly == 16
    Prog.all [
      modTick fun t => { t with
        num := edge, edgeAt := some s.now, edges := true, running := true, announced := none, flyCount := fly,
        flywheel := own && !s.freeRun && (k == .missed || s.srcIn), untrusted := false,
        ending := if t.ending == .oneMore || t.ending == .lastAndMore then .lastTick else .none },
      Prog.when (k == .missed) (.seq (setFlag .rowTickMiss) (raise 0x0104 1 (place fly 31 0))),
      Prog.when stop (Prog.all [endSchedule, modTick fun t => { t with held := true }, raise 0x0103 2 0])]

/-- A START that names this edge begins the schedule (R75). HELD ends with it: log entry 24. -/
def stepStart : Prog :=
  .look fun s => Prog.when (s.tick.startAt.any fun n => n == 0 || n == s.tick.num)
    (.seq (modTick fun t => { t with sched := true, startAt := none, held := false }) (modRes fun r => { r with since := false }))

/-- The Pruner's counts of the closing tick go to their registers (R509). -/
def closeCounts : Prog :=
  .look fun s =>
    let put := fun i n => Prog.reg (Reg.prKeptLast + 4 * i) (place (min n 0xFFFFFFFF) 31 0)
    Prog.all [
      put 0 s.qs.kept, put 1 s.qs.skipFar, put 2 s.qs.skipWeak, put 3 s.qs.restored,
      modQs fun q => { q with kept := 0, skipFar := 0, skipWeak := 0, restored := 0 }]

/-- Steps 3 and 4 of R308: at or above T_CRIT the schedule stops and the node enters KEEP (R304); the governor acts in either case
(R300). -/
def critAndGovern : Prog :=
  .seq (.look fun s => Prog.when s.critical (Prog.all [critMarks, endSchedule, enterLevel .keep])) governor

/-- Credit of the opening tick in 0.25 µJ (R280, R284). -/
def creditFor (s : State) (k : EdgeKind) (passAt : Nat) : Nat :=
  let budget := s.fld Reg.enBudget 23 0
  if k == .pass then 4 * budget * (s.now - passAt) / (s.period * 1000) else 4 * budget

/-- Step 6: R308 in its order, and the Pruner's counts. -/
def stepEnergy (metered : Bool) (k : EdgeKind) (sp : Spend) : Prog :=
  Prog.all [
    closeCounts, ageChange, closeMeters metered sp,
    if metered then .seq closeThermal critAndGovern else dropSamples,
    .look fun s => .seq (settle metered (s.pwr.level != .keep) (creditFor s k s.tick.passAt)) (Prog.when (s.pwr.level != .keep) chooseGrade)]

/-- A scene-memory move (R518). -/
def moveScene : Prog :=
  .look fun s =>
    let rows := (smShape s).1
    let slot := (s.sm.newest + 1) % max 1 (smShape s).2
    .seq (Prog.each (smRegions s) fun g => .mem (g.1 + (1 + slot) * rows * g.2) (s.rdBytes g.1 (rows * g.2)))
      (modSm fun m => { m with newest := slot, fill := min (m.fill + 1) (smShape s).2, moving := true })

/-- Scene memory at step 7 (R517 to R519). `whole`: the schedule ran through the whole closing tick. -/
def stepScene (whole : Bool) : Prog :=
  .seq (.look fun s => Prog.when s.sm.valid
      (if whole && !s.tick.incomplete && !s.sm.emptied then moveScene else setFlag .smSkip))
    (.look fun s => .seq (modSm fun m => { m with emptied := false })
      (Prog.when (s.sm.valid && s.tick.sched && s.pwr.level == .run)
        (writeShape (s.stored Reg.smShape).toNat ((1 + s.sm.fill) * (smShape s).1))))

/-- A watch frame begins (R568, R571). -/
def startFrame : Prog :=
  .seq (modWm fun w => { w with frame := true }) (.look fun s => modTick fun t => { t with entries := freshEntries s })

/-- Whether watch frames run (R568, R570, R575). -/
def State.watching (s : State) : Bool := s.pwr.level == .watch && s.wm.valid && s.wm.settings

/-- What is kept per tick or pass starts again: DESC_ID, layer states, bins, and the frame (R351, R390, R455, R481, R555). -/
def resetEngines : Prog :=
  Prog.all [modDsp fun d => { d with nextId := 0 }, modXe fun x => { x with layers := [], bins := [] }, purgePairs, newFrame]

/-- A FREE_RUN pass begins (R65, R66, R331, R351). In exact mode it runs G0, also where no edge has chosen a grade since EXACT became
live (R309). DESIGN CHOICE, log entry 113: outside exact mode a pass that START 0 opens with no edge runs the grade that CUR holds. -/
def startPass : Prog :=
  .look fun s => Prog.all [
    modTick fun t => { t with
      pass := true, passAt := s.now, entries := freshEntries s, started := 0, guard := false, wholeTick := true, incomplete := false, lost := false,
      exact := s.exactOn },
    Prog.when s.exactOn (modEn fun e => { e with cur := 0 }),
    modRes fun r => { r with done := false, states := [] }, clearFences, resetEngines, startReady]

/-- Step 7: the fence counters are 0 (R331), the engines stand at entry 0, and what is kept per tick starts again (R73, R280, R533).
At the edge of a T_CRIT stop no schedule runs, so no engine is reset to entry 0 (R304); fences, layer states and
bins are cleared at every edge. -/
def stepEngines (whole : Bool) : Prog :=
  Prog.all [
    stepScene whole, clearFences, resetEngines,
    .look fun s =>
      let runs := s.tick.sched && s.pwr.level == .run
      modTick fun t => { t with
        entries := if runs then freshEntries s else [], started := 0, guard := false, incomplete := false, lost := false,
        exact := s.exactOn, wholeTick := runs, metered := s.pwr.level != .keep, pass := false },
    modRes fun r => { r with done := false, states := [] },
    .look fun s => Prog.when (s.watching && decide (s.tick.num.toNat % max 1 (s.fld Reg.watchCtrl 7 0) = 0)) startFrame]

/-- After a pass end or an edge that opened FREE_RUN: the next pass begins at once, or the schedule and the edges stop (R67,
R747). `ran`: the schedule ran in the pass that ends. DESIGN CHOICE: an edge that makes FREE_RUN live while no schedule runs opens no
tick, and edges stop PERIOD after it (log entry 87); a pass end whose own commit makes tick mode live lets the schedule run on and
clears RUNNING (log entry 89). -/
def stepPass (k : EdgeKind) (ran : Bool) : Prog :=
  .look fun s =>
    let runs := s.freeRun && s.tick.sched && s.pwr.level == .run
    if runs && (k != .pass || !ran || s.flag Reg.tickCtrl 4) then startPass
    else if k == .pass then Prog.all [
      Prog.when s.freeRun haltSchedule, modTick fun t => { t with running := false, edges := false, metered := false }, dropOpen]
    else Prog.when s.freeRun (modTick fun t => { t with running := false })

/-- The edge sequence of Table 2-4. DESIGN CHOICE, log entry 112: a FREE_RUN pass end is a local tick edge in the sense of R52, so TICK_OUT pulses
there too. -/
def edge (num : Word) (k : EdgeKind) (sp : Spend) : Prog :=
  .look fun s => Prog.all [
    stepAbort, stepCollect num, restartClock, stepCommit num, stepNumber num k, stepStart,
    moverClose s.tick.num, edgeTrigger,
    .look fun t => modTick fun x => { x with tickOut := t.flag Reg.tickCtrl 3 },
    stepEnergy (s.tick.edges && s.tick.metered) k sp,
    stepEngines s.tick.wholeTick,
    stepPass k s.tick.sched]

/-- An edge whose meter counts no command gives: they are free values (log entry 12). -/
def edgeFree (num : Word) : Prog :=
  .look fun s =>
    .seq (Prog.times 4 .draw)
      (edge num .source { core := Config.freeCount s.free, mem := Config.freeCount (s.free + 1), ana := Config.freeCount (s.free + 2), io := Config.freeCount (s.free + 3) })

/-- Whether the head generates edges: EN, or the one edge after it was cleared (R50, R51). -/
def State.generating (s : State) : Bool := s.isHead && s.keeperUp && !s.freeRun && (s.tickEn || s.tick.ending == .oneMore || s.tick.ending == .lastAndMore)

/-- Number of the next edge. -/
def State.nextNum (s : State) : Word := s.tick.num + 1

/-- What kind of edge falls due now, and its number; none where no edge can (R48 to R51, R70, R87, R118). -/
def State.dueEdge (s : State) : Option (Word × EdgeKind) :=
  if !s.keeperUp || s.freeRun then none
  else if s.isHead then
    match s.tick.announced with
    | some n => some (n, if s.tick.flywheel then .flywheel else .source)
    | none => if s.generating && !s.srcIn then some (s.nextNum, .source) else none
  else if s.link.addr == 0 then none
  else
    match s.tick.announced with
    | some n => some (n, .source)
    | none => if s.tick.running then some (s.nextNum, .missed) else none

/-- TICK_EDGE (R73). -/
def execTickEdge (sp : Spend) (s : State) : Host.Outcome State Fault Refusal :=
  Prog.next (match s.dueEdge with
    | some (n, k) => edge n k sp
    | none => .skip) s

/-- Launch the TICK set of the next edge on DN (R70, R184). -/
def launchSet : Prog :=
  .look fun s => .seq (modTick fun t => { t with announced := some s.nextNum }) (sendOset .dn 0x20 (wordBytes s.nextNum ++ [0]))

/-- TICK_SET_LAUNCH (R70, R84, R184): the set of an internal or a flywheeled edge, 8 µs ahead. Only the first edge after EN rises is not
announced (R185), so a head that a pass end has brought back to tick mode launches it too. -/
def execTickSetLaunch (s : State) : Host.Outcome State Fault Refusal :=
  Prog.next (Prog.when (s.generating && s.tick.announced.isNone && (!s.srcIn || s.tick.flywheel))
    (.seq launchSet (modTick fun t => if t.flywheel then { t with flyAt := s.now } else t))) s

/-- A TICK_IN edge is accepted (R83, R85, R184). -/
def acceptTickIn : Prog :=
  .look fun s =>
    let t := s.tick
    let meas := if t.flywheel then s.readReg Reg.tickMeas else place (min 0xFFFFF (roundDiv (s.now - t.acceptAt) 1000)) 19 0
    Prog.all [
      Prog.when (decide (1 ≤ t.accepted)) (.reg Reg.tickMeas meas),
      modTick fun t => { t with
        accepted := min 2 (t.accepted + 1), acceptAt := s.now, flywheel := false, flyCount := if t.flywheel then 0 else t.flyCount },
      launchSet]

/-- TICK_IN_EDGE (R82). -/
def execTickInEdge (s : State) : Host.Outcome State Fault Refusal :=
  let ref := if s.tick.flywheel then s.tick.flyAt else s.tick.acceptAt
  let early := (s.tick.flywheel || decide (1 ≤ s.tick.accepted)) && decide (s.now - ref < (s.period - guardOf s.period) * 1000)
  Prog.next (Prog.when (s.generating && s.srcIn) (if early then setFlag .tickEarly else acceptTickIn)) s

/-- TICK_LOST (R84): the head begins to flywheel. -/
def execTickLost (s : State) : Host.Outcome State Fault Refusal :=
  Prog.next (Prog.when (s.generating && s.srcIn && !s.tick.flywheel && s.tick.announced.isNone && decide (1 ≤ s.tick.accepted)) (Prog.all [
    setFlag .tickLost, raise 0x0102 1 (s.readReg Reg.tickMeas), launchSet,
    modTick fun t => { t with flywheel := true, flyAt := s.now }])) s

/-- Lateness that a repeated TICK set adds to CORR: at most 8 units of 250 ps, a free value (R186; log entry 9). -/
def lateness (s : State) : Nat := Config.freeCount s.free % 9

/-- TICK_SET (R48, R49, R186, R188): repeated on DN; an addressed member in tick mode fires the announced edge. -/
def takeTick (num : Word) (corr : Byte) (s : State) : Prog :=
  Prog.when (!s.isHead && s.repeats && s.link.upPort.up) (Prog.all [
    .draw, sendOset .dn 0x20 (wordBytes num ++ [BitVec.ofNat 8 (min 255 (corr.toNat + lateness s))]),
    Prog.when (s.keeperUp && s.link.addr != 0 && !s.freeRun) (modTick fun t => { t with announced := some num })])

/-- TICK_SET (R48, R186, R188). -/
def execTickSet (num : Word) (corr : Byte) (s : State) : Host.Outcome State Fault Refusal := Prog.next (.seq (breakRuns .up) (takeTick num corr s)) s

/-- EN in TICK_CTRL becomes 1 (R50, R51). DESIGN CHOICE: edges of TICK_IN accepted before EN rose count for no interval, so the first
edge after it is never early (R82; log entry 88). -/
def tickEnSet : Prog :=
  .look fun s => .seq (setFld Reg.tickCtrl 0 0 1)
    (Prog.when (s.isHead && !s.tickEn)
      (if s.tick.ending == .oneMore then modTick fun t => { t with ending := .none }
       else if s.tick.ending == .lastAndMore then modTick fun t => { t with ending := .lastTick }
       else .seq (modTick fun t => { t with accepted := 0, flywheel := false, announced := none })
        (Prog.when (!s.srcIn && !s.freeRun) (edgeFree s.nextNum))))

/-- EN in TICK_CTRL becomes 0 (R51): generation ends after one more edge, also while the head waits for its first edge of TICK_IN. -/
def tickEnClear : Prog :=
  .look fun s => .seq (setFld Reg.tickCtrl 0 0 0)
    (Prog.when (s.isHead && s.tickEn && !s.freeRun)
      (modTick fun t => { t with ending := if t.ending == .lastTick then .lastAndMore else .oneMore }))

/-- TICK_EN_SET (R50). -/
def execTickEnSet (s : State) : Host.Outcome State Fault Refusal := Prog.next tickEnSet s

/-- TICK_EN_CLEAR (R51). -/
def execTickEnClear (s : State) : Host.Outcome State Fault Refusal := Prog.next tickEnClear s

/-- END_OF_TICKING (R51, R747). Its abort makes the last tick's report as it stands, as step 1 of an edge does (log entry 46). No tick runs any more, so a level change that has powered up takes effect (R119; log entry 82). -/
def execEndOfTicking (s : State) : Host.Outcome State Fault Refusal :=
  Prog.next (Prog.when (s.tick.ending == .lastTick || s.tick.ending == .lastAndMore) (Prog.all [
    stepAbort, haltSchedule,
    Prog.when (s.stg.pend.any fun p => !p.byAt) (makeLiveNow s.tick.num),
    newFrame,
    modTick fun t => { t with
      running := false, ending := if t.ending == .lastAndMore then .oneMore else .none, edges := false, metered := false, flywheel := false,
      entries := [] },
    dropOpen, dueLevel])) s

/-- Whether edges can still come of themselves: a member without an address fires none (R49). -/
def State.edgeSource (s : State) : Bool := s.isHead || s.link.addr != 0

/-- TICK_EDGES_STOP (R747): what the open tick has gathered is discarded. On a member that has lost its address no tick runs from then on, so a
COMMIT acts at its completion (R49, R74; log entry 87). -/
def execTickEdgesStop (s : State) : Host.Outcome State Fault Refusal :=
  Prog.next (Prog.when (s.tick.edges && !s.tick.pass)
    (.seq (modTick fun t => { t with edges := false, metered := false, running := t.running && s.edgeSource }) dropOpen)) s

/-- Whether a pass is over (R66): every entry has completed, or after STOP every entry that had started (log entry 25). An entry
that a SYNC timeout has completed does not end the pass while its work items run (DESIGN CHOICE, log entry 78). -/
def State.passOver (s : State) : Bool :=
  s.freeRun && s.tick.pass && !s.working && (s.tick.stopping || s.tick.entries.all fun e => e == .done)

/-- FREE_RUN_PASS_END (R67, R68, R284, R747). -/
def execFreeRunPassEnd (sp : Spend) (s : State) : Host.Outcome State Fault Refusal :=
  Prog.next (Prog.when s.passOver (edge s.nextNum .pass sp)) s

/-- TICK_OUT_PULSE_END (R52). -/
def execTickOutPulseEnd (s : State) : Host.Outcome State Fault Refusal :=
  Prog.next (modTick fun t => { t with tickOut := false }) s

/-- THERMAL_INTERVAL_END (R307): steps 2 to 4 of R308; a T_CRIT stop enters KEEP at once. -/
def execThermalIntervalEnd (s : State) : Host.Outcome State Fault Refusal :=
  Prog.next (Prog.when (s.pwr.level != .keep && !s.tick.edges) (Prog.all [ageChange, closeThermal, critAndGovern])) s

/-- WATCH_TIMER_EDGE (R568, R569): steps 1 and 7 for the watch schedule, while no tick edges occur. -/
def execWatchTimerEdge (s : State) : Host.Outcome State Fault Refusal :=
  Prog.next (Prog.when (s.watching && !s.tick.edges) (Prog.all [
    stepAbort, clearFences, resetEngines, modTick fun t => { t with started := 0, guard := false, incomplete := false }, startFrame])) s

/-- START (R75, R220, R347). -/
def opStart (s : State) (r : Req) : Answer :=
  if s.pwr.level ≠ .run ∨ s.tick.sched ∨ s.eng.image.isNone then .just St.denied
  else if r.payload.length ≠ 4 then .just St.badParam
  else .now St.ok [] (.seq (modTick fun t => { t with startAt := some (BitVec.ofNat 32 (field r.payload 0 4)) })
    (Prog.when (s.freeRun && !s.tick.pass && field r.payload 0 4 = 0) (.seq stepStart startPass)))

/-- START (R75). -/
def execStart (r : Req) (s : State) : Host.Outcome State Fault Refusal := Prog.next (serve 0x19 opStart r) s

/-- STOP (R76). While the schedule does not run it changes nothing, so a START that waits for its edge stays armed (R347). -/
def opStop (s : State) (r : Req) : Answer :=
  if r.payload ≠ [] then .just St.badParam
  else .now St.ok [] (Prog.when s.tick.sched (.seq haltSchedule (modTick fun t => { t with stopping := true })))

/-- STOP (R76). -/
def execStop (r : Req) (s : State) : Host.Outcome State Fault Refusal := Prog.next (serve 0x1A opStop r) s

/-- A commit that makes SRC 0 live while the head waits for its first edge produces that edge (R50). -/
def firstEdge (wasIn : Bool) : Prog :=
  .look fun s => Prog.when (wasIn && !s.srcIn && s.isHead && s.tickEn && !s.freeRun) (edgeFree s.nextNum)

/-- A set that passed its checks is frozen; while no tick runs it becomes live at once (R245, R246, R74). -/
def commitNow (s : State) : Prog :=
  if s.ticking then freeze s.nextNum false else Prog.all [freeze s.tick.num false, makeLiveNow s.tick.num, firstEdge s.srcIn]

/-- COMMIT (R244 to R246, R248). -/
def opCommit (s : State) (r : Req) : Answer :=
  if s.stg.pend.isSome then .just St.busy
  else if r.payload ≠ [] then .just St.badParam
  else if s.stg.bank.isEmpty then .just St.nothingStaged
  else if failMask s ≠ 0 then .now St.checkFail (leBytes 4 (failMask s)) (storeFail (failMask s))
  else .now St.ok (wordBytes (if s.ticking then s.nextNum else s.tick.num)) (.seq (storeFail 0) (commitNow s))

/-- COMMIT (R246). -/
def execCommit (r : Req) (s : State) : Host.Outcome State Fault Refusal := Prog.next (serve 0x12 opCommit r) s

/-- COMMIT_AT (R244, R245, R247, R248). -/
def opCommitAt (s : State) (r : Req) : Answer :=
  let tick := BitVec.ofNat 32 (field r.payload 0 4)
  let ahead := (tick - s.tick.num).toNat
  if !s.tick.running then .just St.denied
  else if s.stg.pend.isSome then .just St.busy
  else if r.payload.length ≠ 4 ∨ ahead = 0 ∨ 0x7FFFFFFF < ahead then .just St.badParam
  else if s.stg.bank.isEmpty then .just St.nothingStaged
  else if failMask s ≠ 0 then .now St.checkFail (leBytes 4 (failMask s)) (storeFail (failMask s))
  else .now St.ok (wordBytes tick) (.seq (storeFail 0) (freeze tick true))

/-- COMMIT_AT (R247). -/
def execCommitAt (r : Req) (s : State) : Host.Outcome State Fault Refusal := Prog.next (serve 0x16 opCommitAt r) s

end Sys2Proof.Machine
end

