-- ==== Sys2Proof/Machine/Access.lean ====
section
/-! DEFINITION. Reads and writes of registers and memory (chapters 0 and 5), and the pin events that registers show. -/

namespace Sys2Proof.Machine

/-- PM_GPIO_OUT takes a value; a ball that it drives takes it at once, and its own edges are detected (R663, R665). -/
def writeGpioOut (v : Word) : Prog :=
  .look fun s => .seq (.reg Reg.pmGpioOut (v &&& directMask Reg.pmGpioOut))
    (.look fun t => Prog.each (List.range 8) fun n =>
      setFlagIf (s.gpioLevel n != t.gpioLevel n && t.edgeSelected n (t.gpioLevel n)) (edgeFlag n))

/-- The direct RW fields of a register take a value at once (R14), with what some of them do or refuse (R50, R51, R377, R399). -/
def writeDirect (a : Nat) (v : Word) : Prog :=
  .look fun s =>
    if a = Reg.tickCtrl then (if bit v 0 then tickEnSet else tickEnClear)
    else if a = Reg.dspScratch ∧ s.eng.image.isSome then .skip
    else if a = Reg.trBase ∧ s.flag Reg.trCtrl 0 then .skip
    else if a = Reg.pmGpioOut then writeGpioOut v
    else if a = Reg.tdacCtrl then .seq (.reg a (masked (s.stored a) (directMask a) v)) judgeRaw
    else Prog.when (directMask a != 0) (.reg a (masked (s.stored a) (directMask a) v))

/-- What WO fields do when 1 is written to them (Table 0-3; R283, R576, R599, R602, R605, R682). -/
def writeActions (a : Nat) (v : Word) : Prog :=
  if a = Reg.enCtrl then Prog.when (bit v 8) clearBalance
  else if a = Reg.adcSwtrig then Prog.all [
    Prog.when (bit v 1) (swInjected .a), Prog.when (bit v 9) (swInjected .b),
    Prog.when (bit v 0) (swRegular .a), Prog.when (bit v 8) (swRegular .b)]
  else if a = Reg.wmProg then Prog.when (bit v 0) goWrite
  else if a = Reg.fltCtrl then Prog.when (bit v 31) clearCounts
  else .skip

/-- A write of a register word: each field by its class (R9, R14, R15, R215). A W1C bit that hardware set in the present cycle stays
set (R11). -/
def writeReg (a : Nat) (v : Word) : Prog :=
  Prog.all [
    Prog.when (stagedMask a != 0) (stageMasked a (stagedMask a) v),
    .look fun s => Prog.when (w1cMask a != 0) (.reg a (s.stored a &&& ~~~(v &&& w1cMask a &&& ~~~notedBits s.cycle.flags a))),
    writeDirect a v, writeActions a v]

/-- REGISTER_WRITE (R14, R15). -/
def execRegisterWrite (addr value : Word) (s : State) : Host.Outcome State Fault Refusal := Prog.next (writeReg addr.toNat value) s

/-- QMAX_READ (R12): the highest levels are cleared by the read. -/
def execQmaxRead (i : Fin 4) (s : State) : Host.Outcome State Fault Refusal := Prog.next (readEffect (Reg.dspQmax01 + 4 * i.val)) s

/-- PING (R212). -/
def opPing (_ : State) (r : Req) : Answer := .now St.ok r.payload .skip

/-- PING (R212). -/
def execPing (r : Req) (s : State) : Host.Outcome State Fault Refusal := Prog.next (serve 0x01 opPing r) s

/-- The registers that IDENT returns (Table 5-4). -/
def identRegs : List Nat :=
  [Reg.sysId, Reg.sysRev, Reg.sysNode, Reg.sysCaps, Reg.rlSerialLo, Reg.rlSerialHi, Reg.pwrFwSeq, Reg.pwrStat]

/-- IDENT (R212). -/
def opIdent (s : State) (r : Req) : Answer :=
  if r.payload ≠ [] then .just St.badParam else .now St.ok (identRegs.flatMap fun a => wordBytes (s.readReg a)) .skip

/-- IDENT (R212). -/
def execIdent (r : Req) (s : State) : Host.Outcome State Fault Refusal := Prog.next (serve 0x02 opIdent r) s

/-- ENUMERATE (R173, R220). -/
def opEnumerate (s : State) (r : Req) : Answer :=
  if !s.isHead ∨ s.tick.sched then .just St.denied else if r.payload ≠ [] then .just St.badParam else .later (startEnum [r])

/-- ENUMERATE (R173). -/
def execEnumerate (r : Req) (s : State) : Host.Outcome State Fault Refusal := Prog.next (serve 0x03 opEnumerate r) s

/-- Whether n register words from an address lie in the register range, aligned (R213). -/
def regRange (a n : Nat) : Bool := decide (a % 4 = 0) && decide (0x08000000 ≤ a) && decide (a + 4 * n ≤ 0x08100000)

/-- What a read of a register does (Table 0-3, R12, R610, R611). -/
def readRegEffect (a : Nat) : Prog :=
  if a = Reg.adcAData then readData .a else if a = Reg.adcBData then readData .b else readEffect a

/-- REG_RD (R213). -/
def opRegRd (s : State) (r : Req) : Answer :=
  let a := field r.payload 0 4
  if r.payload.length ≠ 4 then .just St.badParam
  else if !regRange a 1 then .just St.badAddr
  else .now St.ok (wordBytes (s.readReg a)) (readRegEffect a)

/-- REG_RD (R213). -/
def execRegRd (r : Req) (s : State) : Host.Outcome State Fault Refusal := Prog.next (serve 0x08 opRegRd r) s

/-- REG_WR (R213, R215). -/
def opRegWr (_ : State) (r : Req) : Answer :=
  let a := field r.payload 0 4
  if r.payload.length ≠ 8 then .just St.badParam
  else if !regRange a 1 then .just St.badAddr
  else .now St.ok [] (writeReg a (BitVec.ofNat 32 (field r.payload 4 4)))

/-- REG_WR (R215). -/
def execRegWr (r : Req) (s : State) : Host.Outcome State Fault Refusal := Prog.next (serve 0x09 opRegWr r) s

/-- REG_RD_BLOCK (R213, R214). -/
def opRegRdBlock (s : State) (r : Req) : Answer :=
  let a := field r.payload 0 4
  let n := field r.payload 4 2
  if r.payload.length ≠ 8 ∨ n = 0 ∨ 1024 < n ∨ !zeroAt r.payload 6 2 then .just St.badParam
  else if !regRange a n then .just St.badAddr
  else .now St.ok ((List.range n).flatMap fun i => wordBytes (s.readReg (a + 4 * i)))
    (Prog.each (List.range n) fun i => readRegEffect (a + 4 * i))

/-- REG_RD_BLOCK (R214). -/
def execRegRdBlock (r : Req) (s : State) : Host.Outcome State Fault Refusal := Prog.next (serve 0x0A opRegRdBlock r) s

/-- MEM_RD (R213, R220, R742). -/
def opMemRd (s : State) (r : Req) : Answer :=
  let a := field r.payload 0 4
  let n := field r.payload 4 2
  if r.payload.length ≠ 8 ∨ n = 0 ∨ 4096 < n ∨ !zeroAt r.payload 6 2 then .just St.badParam
  else if !inOneRange a n then .just St.badAddr
  else if !s.poweredAll a n then .just St.denied
  else .now St.ok (s.rdBytes a n) .skip

/-- MEM_RD (R213). -/
def execMemRd (r : Req) (s : State) : Host.Outcome State Fault Refusal := Prog.next (serve 0x0C opMemRd r) s

/-- Whether a write is denied by the bytes that it touches (R742): unpowered memory, MRAM, the loaded image. -/
def writeDenied (s : State) (a n : Nat) : Bool :=
  !s.poweredAll a n || regionOf a == some .mram || s.eng.image.any fun im => overlaps a n im.addr im.size

/-- MEM_WR (R213, R215, R220, R322, R742). -/
def opMemWr (s : State) (r : Req) : Answer :=
  let a := field r.payload 0 4
  let data := r.payload.drop 4
  if r.payload.length < 5 then .just St.badParam
  else if !inOneRange a data.length then .just St.badAddr
  else if writeDenied s a data.length then .just St.denied
  else .now St.ok [] (.mem a data)

/-- MEM_WR (R742). -/
def execMemWr (r : Req) (s : State) : Host.Outcome State Fault Refusal := Prog.next (serve 0x0D opMemWr r) s

/-- Byte i of the trace ring from an offset (R396, R397). -/
def ringByte (s : State) (off i : Nat) : Nat := (s.stored Reg.trBase).toNat + (off + i) % 262144

/-- TRACE_RD (R220, R396, R742). A read that passes the end of the ring goes on at its start: log entry 27. -/
def opTraceRd (s : State) (r : Req) : Answer :=
  let off := field r.payload 0 4
  let n := field r.payload 4 2
  if r.payload.length ≠ 8 ∨ off % 16 ≠ 0 ∨ 262144 ≤ off ∨ n = 0 ∨ 256 < n ∨ !zeroAt r.payload 6 2 then .just St.badParam
  else if !((List.range n).all fun i => (regionOf (ringByte s off (16 * i))).isSome) then .just St.badAddr
  else if !((List.range n).all fun i => s.powered (ringByte s off (16 * i))) then .just St.denied
  else .now St.ok ((List.range (16 * n)).map fun i => s.rd8 (ringByte s off i)) .skip

/-- TRACE_RD (R396). -/
def execTraceRd (r : Req) (s : State) : Host.Outcome State Fault Refusal := Prog.next (serve 0x24 opTraceRd r) s

/-- The surroundings drive a GPIO ball to a level, or let go of it. -/
def driveGpio (n : Nat) (drive : Option Bool) : Prog :=
  let m := 1#8 <<< n
  modPins fun p => { p with
    gpio := if drive.getD (p.gpio.getLsbD n) then p.gpio ||| m else p.gpio &&& ~~~m
    driven := if drive.isSome then p.driven ||| m else p.driven &&& ~~~m }

/-- GPIO_EDGE (R665, R666): what the surroundings do to a ball moves its level, and EDGEn is set where EDGE selects that edge. A ball
that the node itself drives shows the edge only where its level follows the surroundings (R662, R673). -/
def execGpioEdge (n : Fin 8) (drive : Option Bool) (s : State) : Host.Outcome State Fault Refusal :=
  Prog.next (.seq (driveGpio n.val drive)
    (.look fun t => setFlagIf (s.gpioLevel n.val != t.gpioLevel n.val && t.edgeSelected n.val (t.gpioLevel n.val)) (edgeFlag n.val))) s

/-- HAND_OVER_END (R254, R256, R674, R675): every ball in its hand-over runs its new function, and the switches of AIN pins close. -/
def execHandOverEnd (s : State) : Host.Outcome State Fault Refusal :=
  Prog.next (.seq (modPins fun p => { p with hand := [] }) (startCmps s)) s

/-- TRACE_SYNC_PULSE_END (R660, Table 17-2): the pulse of the TRACE_SYNC function ends. -/
def execTraceSyncPulseEnd (_ : Fin 8) (s : State) : Host.Outcome State Fault Refusal :=
  Prog.next (modPins fun p => { p with pulse := false }) s

end Sys2Proof.Machine
end

