-- ==== Sys2Proof/Machine/HostPort.lean ====
section
/-! DEFINITION. The host port (chapter 5): the order of request checks up to execution, forwarding, broadcasts, replies that
arrive over the row, and the read transactions. What runs an accepted request is a parameter here. -/

namespace Sys2Proof.Machine

/-- LEN of a request packet (Table 5-2). -/
def requestLen (bytes : List Byte) : Nat := field bytes 4 2

/-- Whether a write transaction holds exactly one request packet (R206). -/
def goodFraming (bytes : List Byte) : Bool :=
  decide (8 ≤ bytes.length) && field bytes 0 1 == 0xA5 && decide (requestLen bytes ≤ 4096) &&
    decide (bytes.length = 8 + requestLen bytes)

/-- Whether a request packet's CRC-16 matches (R210). -/
def goodCrc (bytes : List Byte) : Bool :=
  decide (field bytes (6 + requestLen bytes) 2 = (crc16 ((bytes.drop 1).take (5 + requestLen bytes))).toNat)

/-- Payload of a request packet. -/
def requestPayload (bytes : List Byte) : List Byte := (bytes.drop 6).take (requestLen bytes)

/-- Largest reply packet that a request can produce (R231, Table 5-4). -/
def largestReply (op : Nat) (pl : List Byte) : Nat :=
  9 + (if op = 0x01 then pl.length else if op = 0x02 then 32 else if op = 0x03 then 132 else if op = 0x08 then 4
    else if op = 0x0A then min 4096 (4 * field pl 4 2) else if op = 0x0C then min 4096 (field pl 4 2)
    else if op = 0x18 then 12 else if op = 0x20 then 12 else if op = 0x21 then min 4096 (8 + 4 * field pl 2 2)
    else if op = 0x24 then min 4096 (16 * field pl 4 2) else if op = 0x28 then min 4096 (4 + 16 * field pl 2 2)
    else if op = 0x30 then min 4096 (8 + field pl 4 2)
    else if op ∈ [0x11, 0x12, 0x14, 0x15, 0x16, 0x22, 0x3F] then 4 else 0)

/-- Bytes of the 64 KiB reply queue that are taken or reserved (R231). -/
def queueUse (h : Hp) : Nat :=
  (h.queue.map fun q => q.bytes.length).sum + ((h.out.filter fun o => !o.queued).map fun o => o.room).sum

/-- Outstanding requests counted against an address: its own and every broadcast (R231). -/
def outstanding (h : Hp) (a : Nat) : Nat := (h.out.filter fun o => o.dest == 0x3F || decide (o.dest.toNat = a)).length

/-- Whether the head must answer BUSY (R231). -/
def mustBusy (s : State) (dest : BitVec 6) (room : Nat) : Bool :=
  (if dest == 0x3F then (List.range (max 1 s.link.rowLen)).any fun i => decide (8 ≤ outstanding s.hp (i + 1))
   else decide (8 ≤ outstanding s.hp dest.toNat)) || decide (65536 < queueUse s.hp + room)

/-- A reply that the receiving node makes before any request is accepted; it enters no window (R230). -/
def plainReply (src op : Nat) (tag : Byte) (status : Nat) : Prog := queueReply (replyPacket src op tag status (checkPayload op status)) 0 tag false

/-- The head accepts a request: it is outstanding from now on (R231). -/
def acceptOut (dest : BitVec 6) (op : Nat) (tag : Byte) (room rowLen : Nat) : Prog :=
  modHp fun h => { h with out := h.out ++
    [{ dest := dest, tag := tag, opcode := BitVec.ofNat 8 op, got := [], rowLen := rowLen, queued := false, room := room }] }

/-- Steps 4 to 6 and onward at the head: duplicates, limits, then execution, forwarding or broadcast (Table 5-6, R222, R225). -/
def headRequest (run : Nat → Req → Prog) (bytes : List Byte) (dest : BitVec 6) (op : Nat) (tag : Byte) : Prog :=
  .look fun s =>
    let d := countedDest dest
    let bcast := d == 0x3F
    let spread := bcast && decide (op ∈ broadcastOps)
    let room := if spread then 9 + s.link.rowLen else largestReply op (requestPayload bytes)
    let req : Req := { path := .host, bcast := bcast, tag := tag, payload := requestPayload bytes }
    if s.hp.out.any fun o => o.dest == d && o.tag == tag then addSat Reg.hpCnt5 15 0 1
    else if mustBusy s d room then .seq (addSat Reg.hpCnt6 15 0 1) (plainReply 1 op tag St.busy)
    else .seq (acceptOut d op tag room s.link.rowLen)
      (if spread then
        .seq (Prog.when (decide (2 ≤ s.link.rowLen)) (sendOwn .dn 1 0x3F 0 0 (padEven bytes))) (run op req)
      else if bcast || d == 1 then run op req
      else sendOwn .dn 1 d 0 0 (padEven bytes))

/-- Step 3 of Table 5-6: the reserved bits of DEST, then routing (R31, Table 5-7). -/
def routeRequest (run : Nat → Req → Prog) (bytes : List Byte) : Prog :=
  .look fun s =>
    let op := field bytes 2 1
    let tag := BitVec.ofNat 8 (field bytes 3 1)
    let d := field bytes 1 1
    let src := s.link.addr.toNat
    if 64 ≤ d then plainReply src op tag St.badParam
    else if s.isHead then
      if d = 0x3F ∨ d ≤ max 1 s.link.rowLen then headRequest run bytes (BitVec.ofNat 6 d) op tag
      else plainReply 1 op tag St.noRoute
    else if d = 0 ∨ d = src then run op { path := .host, bcast := false, tag := tag, payload := requestPayload bytes }
    else plainReply src op tag St.noRoute

/-- A write transaction (R206, Table 5-6). -/
def hpWrite (run : Nat → Req → Prog) (bytes : List Byte) : Prog :=
  .look fun s => Prog.when s.answers (.seq (modHp fun h => { h with sio := [] })
    (if !goodFraming bytes then setFlag .irqFrameErr
     else if !goodCrc bytes then
       .seq (addSat Reg.hpCnt4 31 16 1) (plainReply 0 (field bytes 2 1) (BitVec.ofNat 8 (field bytes 3 1)) St.badCrc)
     else routeRequest run bytes))

/-- A request reaches a member in a PKT frame, on its UP port (R28, R221, R223). -/
def pktRequest (run : Nat → Req → Prog) (p : Port) (f : RxFrame) : Prog :=
  let bytes := f.payload.take (8 + requestLen f.payload)
  let op := field bytes 2 1
  let tag := BitVec.ofNat 8 (field bytes 3 1)
  .look fun s => Prog.when (s.answers && !s.isHead && p == .up && goodFraming bytes)
    (if goodCrc bytes then run op { path := .row, bcast := f.dst == 0x3F, tag := tag, payload := requestPayload bytes }
     else .seq (addSat Reg.hpCnt4 31 16 1) (sendOwn .up 1 1 0 0 (padEven (replyPacket 0 op tag St.badCrc []))))

/-- A reply reaches the head in a PKT frame: it answers the request that is outstanding at its source under its TAG, or a broadcast, or is
late (R223, R225, R226). Its opcode decides only where both are outstanding: a replay may carry another one (R228).
Where a direct request and a broadcast wait under one TAG with one opcode, the first reply answers the direct request and the later one,
REPLAYED, the broadcast: DESIGN CHOICE, log entry 117. -/
def pktReply (f : RxFrame) : Prog :=
  let bytes := f.payload.take (9 + field f.payload 5 2)
  let tag := BitVec.ofNat 8 (field bytes 3 1)
  let open' := fun (o : OutReq) (d : BitVec 6) => o.dest == d && o.tag == tag && !o.queued
  .look fun s => Prog.when s.isHead
    (let direct := s.hp.out.find? fun o => open' o f.src
     let spread := s.hp.out.find? fun o => open' o 0x3F && !(o.got.any fun g => g.1 == f.src.toNat)
     let ofSpread := spread.any fun o => direct.isNone ||
       (decide (o.opcode.toNat = field bytes 2 1) && direct.all fun d => d.opcode != o.opcode)
     if ofSpread then broadcastStatus tag f.src.toNat (BitVec.ofNat 8 (replyStatus bytes))
     else if direct.isSome then queueReply bytes f.src tag true
     else setFlag .irqLateReply)

/-- A PKT frame is consumed: SYNC tells a request from a reply (Tables 5-2 and 5-3). -/
def consumePkt (run : Nat → Req → Prog) (p : Port) (f : RxFrame) : Prog :=
  if field f.payload 0 1 = 0x5A then pktReply f else pktRequest run p f

/-- A read transaction (R207, R208): the bytes clocked out; a complete reply leaves the queue, and its request is outstanding no
more (R231). -/
def readReply (clocked : Nat) : Prog :=
  .look fun s => Prog.when s.answers (match s.hp.queue with
    | [] => modHp fun h => { h with sio := List.replicate clocked 0 }
    | q :: rest =>
      let read := decide (q.bytes.length ≤ clocked)
      modHp fun h => { h with
        sio := q.bytes.take clocked ++ List.replicate (clocked - q.bytes.length) 0
        queue := if read then rest else h.queue
        out := if read && q.owns then h.out.filter (fun o => !(o.queued && o.dest == q.dest && o.tag == q.tag)) else h.out })

/-- HP_READ_REPLY (R207, R208). -/
def execHpReadReply (clocked : Nat) (s : State) : Host.Outcome State Fault Refusal := Prog.next (readReply clocked) s

/-- A read-status transaction (R202): the four bytes of HP_QSTAT. -/
def readStatus : Prog := .look fun s => Prog.when s.answers (modHp fun h => { h with sio := wordBytes (s.readReg Reg.hpQstat) })

/-- HP_READ_STATUS (R202). -/
def execHpReadStatus (s : State) : Host.Outcome State Fault Refusal := Prog.next readStatus s

/-- RTO_EXPIRY (R225, R226): TIMEOUT for a forwarded request; a broadcast is closed with the missing addresses. -/
def execRtoExpiry (dest : BitVec 6) (tag : Byte) (s : State) : Host.Outcome State Fault Refusal :=
  Prog.next (match s.hp.out.find? fun o => o.dest == dest && o.tag == tag && !o.queued with
    | none => .skip
    | some o =>
      if dest = 0x3F then closeBroadcast o
      else Prog.when (decide (2 ≤ dest.toNat)) (Prog.all [
        queueReply (replyPacket 1 o.opcode.toNat tag St.timeout []) dest tag true,
        setFlag .irqTimeout,
        raise 0x0401 1 (place tag.toNat 23 16 ||| place o.opcode.toNat 15 8 ||| place dest.toNat 5 0)])) s

end Sys2Proof.Machine
end

