-- ==== Sys2Proof/Machine/Power.lean ====
section
/-! DEFINITION. Reset and boot (chapter 3): the sources of reset, the boot ROM, the firmware slots and FW_UPDATE, the keeper set
and BIST. -/

namespace Sys2Proof.Machine

/-- The power block after a reset. Straps, supplies and the level at RESET_N are what they were; the slots that failed to come up
are remembered across the boot watchdog's reset alone (R96, R110). -/
def resetPwr (p : Pwr) (phase : Phase) (bootAt : Nat) (keepTried : Bool) : Pwr :=
  { Pwr.reset with
    phase := phase, bootAt := bootAt, resetLow := p.resetLow, strapsKept := p.strapsKept, straps := p.straps,
    strapPins := p.strapPins, brown := p.brown, vddPixLow := p.vddPixLow, triedA := keepTried && p.triedA,
    triedB := keepTried && p.triedB }

/-- Every unit after a reset (R99, R240). The levels that the surroundings put on balls and comparator inputs are what they were. -/
def resetUnits (u : Units) (p : Pwr) : Units :=
  { Units.reset with
    pwr := p, pins := { Pins.reset with gpio := u.pins.gpio, driven := u.pins.driven, ain := u.pins.ain, ainBit := u.pins.ainBit } }

/-- PWR_RST_CAUSE with one more source: causes add up while a reset lasts (R103). -/
def causesWith (s : State) (cause : Nat) : Word :=
  (if s.pwr.phase = .inReset then s.stored Reg.pwrRstCause else 0) ||| placeBit true cause

/-- Everything that a reset clears stands at its reset value (R99, R240, R737): every register but PWR_RST_CAUSE, and the memories that KEEP
does not power. -/
def clearNode (phase : Phase) (keepTried : Bool) (cause : Word) : Prog :=
  .look fun s => Prog.all [
    .units fun u => resetUnits u (resetPwr u.pwr phase s.now keepTried),
    Prog.each s.regs fun e => .reg e.1 (resetWord e.1),
    .reg Reg.pwrRstCause cause, .note fun _ => Cycle.empty,
    loseRange .shared, loseRange .local, loseRange .dram]

/-- The node resets (R99, R103). A phase other than inReset says that the reset is over at once. -/
def nodeReset (cause : Nat) (phase : Phase) (keepTried : Bool) : Prog :=
  .look fun s => clearNode phase keepTried (causesWith s cause)

/-- A reset of the node itself: it is over at once (R103). -/
def selfReset (cause : Nat) (keepTried : Bool) : Prog := nodeReset cause .rom keepTried

/-- The reset ends when RESET_N is high, the supplies are good and the straps are latched (R95, R97, R99). Whatever has come meanwhile, every
register then holds its reset word (R737). -/
def tryBoot : Prog :=
  .look fun s => Prog.when (s.pwr.phase == .inReset && !s.pwr.resetLow && s.pwr.brown.isEmpty && s.pwr.strapsKept)
    (clearNode .rom true (s.stored Reg.pwrRstCause))

/-- The time for which R95 requires RESET_N to be low, in ns: 1 ms, and 3 ms where a crystal has to start. -/
def resetLowNs : Nat := if Config.crystal then 3000000 else 1000000

/-- RESET_N is low long enough (R103, R717). Once a brown-out has cleared the strap latch, only a pulse of R95's length counts
(R97), and it begins with VDD_IO in range. -/
def pinReset (lowNs : Nat) : Prog :=
  .seq (nodeReset 0 .inReset false)
    (modPwr fun p => { p with resetLow := decide (.io ∉ p.brown) && (p.strapsKept || decide (resetLowNs ≤ lowNs)) })

/-- RESET_N_ASSERT (R717): 2 µs reset the node, less than 1 µs does nothing, and between the two a free value decides. -/
def execResetNAssert (lowNs : Nat) (s : State) : Host.Outcome State Fault Refusal :=
  Prog.next (if 2000 ≤ lowNs then pinReset lowNs
    else if lowNs < 1000 then .skip
    else .seq .draw (Prog.when (Config.freeBool s.free) (pinReset lowNs))) s

/-- RESET_N_RISE (R95, R96, R106, R659): the straps are latched, and the boot ROM starts when the supplies are good. -/
def execResetNRise (straps : Straps) (s : State) : Host.Outcome State Fault Refusal :=
  Prog.next (.seq (modPwr fun p => { p with strapPins := straps })
    (Prog.when (s.pwr.phase == .inReset && s.pwr.resetLow) (.seq
      (modPwr fun p => { p with
        resetLow := false, straps := if .io ∈ p.brown then p.straps else straps, strapsKept := decide (.io ∉ p.brown) })
      tryBoot))) s

/-- Bit of a supply in PWR_RST_CAUSE (Table 3-13). -/
def supplyCause : Supply → Nat
  | .io => 1
  | .core => 2
  | .mem => 3
  | .ana => 4

/-- BROWN_OUT (R97, R98, R99, R267, R704). A low level at RESET_N from before a brown-out of VDD_IO does not count for R95 (R97). -/
def execBrownOut (supply : Supply) (s : State) : Host.Outcome State Fault Refusal :=
  Prog.next (Prog.all [cutWrites, nodeReset (supplyCause supply) .inReset false,
    modPwr fun p => { p with
      brown := if supply ∈ p.brown then p.brown else p.brown ++ [supply], strapsKept := p.strapsKept && decide (supply ≠ .io),
      resetLow := p.resetLow && decide (supply ≠ .io) }]) s

/-- BROWN_OUT_RELEASE (R99): the node boots as though RESET_N had risen, unless the strap latch was cleared (R97). R98 monitors VDD_PIX
too, so on a BRN-V64 the node waits for it as well. DEDUCED, log entry 91. -/
def execBrownOutRelease (s : State) : Host.Outcome State Fault Refusal :=
  Prog.next (Prog.when (!(s.fuse.isV64 && s.pwr.vddPixLow)) (.seq (modPwr fun p => { p with brown := [] }) tryBoot)) s

/-- Whether firmware runs (R103, R110). -/
def State.firmwareRuns (s : State) : Bool := s.pwr.phase == .firmware || s.keeperUp

/-- WDT (R103): the watchdog watches firmware. -/
def execWdt (s : State) : Host.Outcome State Fault Refusal := Prog.next (Prog.when s.firmwareRuns (selfReset 6 false)) s

/-- BOOT_WDT (R110): the slot that did not come up is not started again before another kind of reset. -/
def execBootWdt (s : State) : Host.Outcome State Fault Refusal :=
  Prog.next (Prog.when (s.pwr.phase == .firmware) (.seq
    (modPwr fun p => { p with
      triedA := p.triedA || (!p.hostImage && !p.slotB), triedB := p.triedB || (!p.hostImage && p.slotB) })
    (selfReset 7 true))) s

/-- RESET_NODE (R104). -/
def opResetNode (_ : State) (r : Req) : Answer :=
  if r.payload ≠ [] then .just St.badParam else .now St.ok [] (modPwr fun p => { p with resetAsked := true })

/-- RESET_NODE (R104). -/
def execResetNode (r : Req) (s : State) : Host.Outcome State Fault Refusal := Prog.next (serve 0x3E opResetNode r) s

/-- RESET_NODE_DELAY_EXPIRY (R104). -/
def execResetNodeDelayExpiry (s : State) : Host.Outcome State Fault Refusal :=
  Prog.next (Prog.when s.pwr.resetAsked (selfReset 5 false)) s

/-- The latched boot mode (Table 3-5): host boot. -/
def State.hostBootMode (s : State) : Bool := !s.pwr.straps.mode1 && s.pwr.straps.mode0

/-- The phase that follows arming: firmware slots in normal mode, an image from the host, or a halt (R106). -/
def phaseAfterArming (s : State) : Phase :=
  if s.pwr.straps.mode1 then .jtagHold else if s.pwr.straps.mode0 then .hostBoot else .armed

/-- What the boot ROM takes from a settings copy: bits 0 to 3 of PM_AIN_MODE, then CMP0 to CMP3 (R107, R668). -/
def armEntry (e : Nat × Word) : Prog :=
  .look fun s =>
    if e.1 = Reg.pmAinMode then .reg e.1 (masked (s.stored e.1) (stagedMask e.1 &&& 0xF) e.2)
    else Prog.when (decide (e.1 ∈ [cmpCtrl 0, cmpCtrl 1, cmpCtrl 2, cmpCtrl 3])) (.reg e.1 (masked (s.stored e.1) (stagedMask e.1) e.2))

/-- REFLEX_ARMED (R101, R107, R631, R668). Without a readable valid copy the comparators keep their reset values (Table 3-10). -/
def execReflexArmed (mramReads : Bool) (s : State) : Host.Outcome State Fault Refusal :=
  Prog.next (Prog.when (s.pwr.phase == .rom) (Prog.all [
    modPwr fun p => { p with mramOk := mramReads },
    .look fun t => Prog.each ((t.newestCopy.map t.copyEntries).getD []) armEntry,
    .look fun t => modPwr fun p => { p with phase := phaseAfterArming t },
    startCmps s])) s

/-- MAGIC of a firmware header (R108). -/
abbrev fwMagic : Word := 0x46524E57

/-- Whether bytes begin with a valid firmware image (R108). Where its header holds its other fields is a free value of Config (log
entry 28). -/
def imageValid (bytes : List Byte) : Bool :=
  let len := field bytes Config.fwLengthAt 4
  decide (field bytes 0 4 = fwMagic.toNat) && decide (Config.fwBodyAt + len ≤ bytes.length) &&
    decide (field bytes Config.fwCrcAt 4 = (crc32 ((bytes.drop Config.fwBodyAt).take len)).toNat)

/-- Base of a firmware slot (Table 6-2); true for B. -/
def slotBase (b : Bool) : Nat := if b then Mram.slotB else Mram.slotA

/-- Sequence number of a slot (R108). -/
def State.slotSeq (s : State) (b : Bool) : Nat := (s.rd32 (slotBase b + Config.fwSeqAt)).toNat

/-- Whether a firmware slot is valid (R108); none is when the MRAM cannot be read (Table 3-10). -/
def State.slotValid (s : State) (b : Bool) : Bool :=
  s.pwr.mramOk && s.rd32 (slotBase b) == fwMagic && imageValid (s.rdBytes (slotBase b) 0x100000)

/-- The slot to start: of those that may be started the one with the higher number, A among equals (R108 to R110). -/
def chooseSlot (a b : Bool) (seqA seqB : Nat) : Option Bool :=
  if a && b then some (decide (seqA < seqB)) else if a then some false else if b then some true else none

/-- Severity of the RESET record (Table 18-1). -/
def resetSev (s : State) : Nat := if s.stored Reg.pwrRstCause &&& ~~~0x21 = 0 then 0 else 2

/-- The RESET condition (Table 18-1). -/
def resetCond (s : State) : Cond :=
  { code := 0x0F01, sev := resetSev s, src := s.link.addr.toNat, data := s.stored Reg.pwrRstCause, tick := none }

/-- ROM-only service begins: its log holds the RESET record alone (R111). -/
def enterRomOnly : Prog :=
  Prog.all [
    modPwr fun p => { p with phase := .romOnly }, modFlt fun f => { f with conds := [] },
    .look fun s => writeRecord (resetCond s)]

/-- A firmware slot is started (R108, R109). FW_FALLBACK tells that it holds the lower number (Table 3-14; log entry 29). -/
def startSlot (b : Bool) : Prog :=
  .look fun s => Prog.all [
    modPwr fun p => { p with phase := .firmware, slotB := b },
    .reg Reg.pwrFwSeq (BitVec.ofNat 32 (s.slotSeq b)),
    Prog.when (decide (s.slotSeq b < s.slotSeq !b)) (.seq (setFlag .fwFallback) (raise 0x0F03 2 (BitVec.ofNat 32 (s.slotSeq b))))]

/-- FIRMWARE_SLOT_START (R108 to R111). -/
def execFirmwareSlotStart (s : State) : Host.Outcome State Fault Refusal :=
  Prog.next (Prog.when (s.pwr.phase == .armed)
    (match chooseSlot (s.slotValid false && !s.pwr.triedA) (s.slotValid true && !s.pwr.triedB) (s.slotSeq false) (s.slotSeq true) with
      | some b => startSlot b
      | none => enterRomOnly)) s

/-- The recalled set is committed at boot, or rejected (R113, R271, R272, R744). The reference buffer is on while firmware waits
for it, and its readiness at the end of the wait is the command's operand. -/
def bootCommit (refReady : Bool) : Prog :=
  .look fun s =>
    let early := bit (s.prospective Reg.adcRef) 0
    Prog.all [
      Prog.when early (.seq (.reg Reg.adcRef (masked (s.stored Reg.adcRef) (stagedMask Reg.adcRef) (s.prospective Reg.adcRef)))
        (modAdc fun x => { x with refReady := refReady })),
      .look fun t =>
        .seq (storeFail (failMask t))
          (if failMask t = 0 then .seq (freeze t.tick.num false) (makeLive t.tick.num true)
           else Prog.all [
            modStg fun g => { g with bank := [] }, .reg Reg.adcRef (s.stored Reg.adcRef), modAdc fun x => { x with refReady := false },
            setFlag .bootReject, raise 0x0501 2 (place (failMask t) 31 0)])]

/-- Recall and commit at boot: nothing happens when no copy is valid (R113, R269). -/
def bootSettings (refReady : Bool) : Prog :=
  .look fun s =>
    match s.newestCopy with
    | some c => .seq (recallEntries c) (.look fun t => Prog.when (!t.stg.bank.isEmpty) (bootCommit refReady))
    | none => .skip

/-- KEEPER_UP (R112, R113, R117, R271, R272, R702): the black box is scanned before the RESET record is due, the settings are
recalled and committed, and a head enumerates its row (R173). A failure of firmware SRAM keeps it from coming (Table 3-10). -/
def execKeeperUp (refReady rowLinkOk : Bool) (s : State) : Host.Outcome State Fault Refusal :=
  Prog.next (Prog.when (s.pwr.phase == .firmware && s.pwr.fwSramOk) (Prog.all [
    modPwr fun p => { p with rowLinkOk := rowLinkOk },
    scanBlackBox,
    modFlt fun f => { f with conds := resetCond s :: f.conds },
    bootSettings refReady,
    modPwr fun p => { p with phase := .keeper },
    setFld Reg.pwrBootTime 7 0 s.bootMs,
    Prog.when s.isHead (startEnum [])])) s

/-- PWR_BIST after BIST (Table 3-14). -/
def bistWord (s : State) (b : Bist) : Word :=
  place (fromBits [!b.fwSram, !s.pwr.mramOk, !b.memDie, !b.shSram, s.fuse.isV64 && !b.scion, !b.pe, !b.adcA, !b.adcB]) 7 0

/-- Whether any unit failed (R114). -/
def bistFailed (s : State) (b : Bist) : Bool := bistWord s b != 0 || b.coreOk != BitVec.allOnes 64 || !s.pwr.rowLinkOk

/-- The level after boot (R116, R39): BOOT_LEVEL if it is allowed. While a tick runs it is entered at the next edge. -/
def bootLevel : Prog :=
  .look fun s => Prog.when (s.flag Reg.pwrLevel 0 && s.allows .watch && s.pwr.level == .keep)
    (if s.ticking then modPwr fun p => { p with pend := some .watch, pendReady := true } else levelNow .watch)

/-- What BIST records of itself (R114): PWR_BIST, and BIST_FAIL if any unit failed. -/
def recordBist (b : Bist) : Prog :=
  .look fun s => Prog.all [
    modPwr fun p => { p with bistRan := true }, .reg Reg.pwrBist (bistWord s b),
    Prog.when (bistFailed s b) (.seq (setFlag .bistFail) (raise 0x0F02 2 (bistWord s b)))]

/-- A converter that failed BIST is off: what it was doing ends, and its data register reads 0 (R624). -/
def failConv (c : Conv) (ok : Bool) : Prog :=
  Prog.when (!ok) (.seq (modConv c fun _ => ConvSt.reset) (.reg (dataReg c) 0))

/-- BIST of the other blocks has passed over the keeper set: what the node offers follows its outcome (R43, R114, R124). -/
def offerBist (b : Bist) : Prog :=
  .look fun s => Prog.all [
    modPwr fun p => { p with
      bistDone := true, coreOk := b.coreOk, memDieOk := b.memDie, shSramOk := b.shSram, imagerOk := b.scion && b.pe, peOk := b.pe,
      adcAOk := b.adcA, adcBOk := b.adcB },
    recordBist b, failConv .a b.adcA, failConv .b b.adcB, setFld Reg.pwrBootTime 23 16 s.bootMs, bootLevel]

/-- Firmware SRAM has failed: there is no KEEPER_UP, no level above KEEP, and the boot watchdog will reset the node (Table 3-10, R110). -/
def failFirmware (b : Bist) : Prog := .seq (recordBist b) (modPwr fun p => { p with phase := .firmware, fwSramOk := false })

/-- BIST_COMPLETE (R43, R112, R114 to R116, R124). In ROM-only service, after a failure of firmware SRAM or of the MRAM read path, the
outcome shows in PWR_BIST and BIST_FAIL alone, since no firmware runs that could complete BIST in the sense of R43 (log entry 34). -/
def execBistComplete (b : Bist) (s : State) : Host.Outcome State Fault Refusal :=
  Prog.next (Prog.when (!s.pwr.bistRan) (
    if s.firmwareRuns && !b.fwSram then failFirmware b
    else if s.keeperUp then offerBist b
    else Prog.when s.romOnly (recordBist b))) s

/-- The chunk fields of FW_UPDATE. -/
def fwOffset (r : Req) : Nat := field r.payload 0 4
/-- TOTAL of FW_UPDATE. -/
def fwTotal (r : Req) : Nat := field r.payload 4 4

/-- Largest TOTAL (R219, Table 5-4). -/
def fwMax (s : State) : Nat := if s.hostBootMode then 0x40000 else 0x100000

/-- The bytes of the transfer with this chunk, when it continues or begins one (R218). -/
def fwReceived (s : State) (r : Req) : Option (List Byte) :=
  let data := r.payload.drop 8
  if fwOffset r = 0 then some data
  else
    match s.pwr.xfer with
    | some x => if x.total = fwTotal r ∧ x.data.length = fwOffset r then some (x.data ++ data) else none
    | none => none

/-- The slot that a complete image is written to (R219). -/
def fwTarget (s : State) : Bool :=
  if s.romOnly then
    s.slotValid false && (!s.slotValid true || !decide (s.slotSeq false < s.slotSeq true))
  else !s.pwr.slotB

/-- The sequence number given to it (R219): in normal mode one more than the higher number of the two slots, in ROM-only service one more
than the highest of a valid slot, 1 when none is valid. -/
def fwNextSeq (s : State) : Word :=
  let seq := fun b => if !s.romOnly || s.slotValid b then s.slotSeq b else 0
  BitVec.ofNat 32 (max (seq false) (seq true) + 1)

/-- Bytes with four of them replaced. -/
def patchWord (bytes : List Byte) (off : Nat) (w : Word) : List Byte :=
  bytes.mapIdx fun i b => if off ≤ i ∧ i < off + 4 then (wordBytes w).getD (i - off) 0 else b

/-- An image as a slot holds it: with its sequence number, and with the CRC-32 of its covered bytes as they then stand. -/
def fwStamped (bytes : List Byte) (seq : Word) : List Byte :=
  let b := patchWord bytes Config.fwSeqAt seq
  patchWord b Config.fwCrcAt (crc32 ((b.drop Config.fwBodyAt).take (field b Config.fwLengthAt 4)))

/-- A complete image is written to its slot, or the write fails, which a free value decides (R219; log entry 9). -/
def fwWrite (s : State) (bytes : List Byte) : Answer :=
  if Config.freeBool s.free then
    .now St.ok (wordBytes (fwNextSeq s)) (Prog.all [
      .draw, modPwr fun p => { p with xfer := none }, .mem (slotBase (fwTarget s)) (fwStamped bytes (fwNextSeq s))])
  else
    .now St.nvmFail [] (Prog.all [
      .draw, modPwr fun p => { p with xfer := none },
      .mem (slotBase (fwTarget s)) ((List.range bytes.length).map fun i => Config.freeByte (s.free + 1 + i)),
      Prog.times bytes.length .draw])

/-- Host boot: the image is started from firmware SRAM (R219). -/
def fwStart (bytes : List Byte) : Answer :=
  .now St.ok (leBytes 4 bytes.length) (Prog.all [
    modPwr fun p => { p with xfer := none, hostImage := true, phase := .firmware },
    .reg Reg.pwrFwSeq (BitVec.ofNat 32 (field bytes Config.fwSeqAt 4))])

/-- FW_UPDATE (R218, R219). -/
def opFwUpdate (s : State) (r : Req) : Answer :=
  let len := r.payload.length - 8
  if r.payload.length < 9 ∨ 4088 < len ∨ fwMax s < fwTotal r ∨ fwTotal r < fwOffset r + len then .just St.badParam
  else
    match fwReceived s r with
    | none => .just St.badParam
    | some bytes =>
      if bytes.length < fwTotal r then
        .now St.ok (leBytes 4 bytes.length) (modPwr fun p => { p with xfer := some { total := fwTotal r, data := bytes } })
      else if !imageValid bytes then .now St.badParam [] (modPwr fun p => { p with xfer := none })
      else if s.hostBootMode then fwStart bytes
      else fwWrite s bytes

/-- FW_UPDATE (R218). -/
def execFwUpdate (r : Req) (s : State) : Host.Outcome State Fault Refusal := Prog.next (serve 0x3F opFwUpdate r) s

end Sys2Proof.Machine
end

