-- ==== Sys2Proof/Machine/Packets.lean ====
section
/-! DEFINITION. Packets that carry any opcode: a write transaction at the host port, a PKT frame, and an EVENT frame. -/

namespace Sys2Proof.Machine

/-- What each opcode of Table 5-4 answers (step 8 and on). -/
def opOf : Nat → State → Req → Answer
  | 0x01 => opPing
  | 0x02 => opIdent
  | 0x03 => opEnumerate
  | 0x08 => opRegRd
  | 0x09 => opRegWr
  | 0x0A => opRegRdBlock
  | 0x0C => opMemRd
  | 0x0D => opMemWr
  | 0x10 => opStageWr
  | 0x11 => opCheck
  | 0x12 => opCommit
  | 0x13 => opDiscard
  | 0x14 => opStore
  | 0x15 => opRecall
  | 0x16 => opCommitAt
  | 0x18 => opLoadImage
  | 0x19 => opStart
  | 0x1A => opStop
  | 0x1B => opSelectGrade
  | 0x1C => opSetLevel
  | 0x20 => opAdcCal
  | 0x21 => opAdcSnapshot
  | 0x22 => opHaltRelease
  | 0x24 => opTraceRd
  | 0x28 => opFaultRd
  | 0x29 => opFaultClr
  | 0x30 => opResultRd
  | 0x3E => opResetNode
  | 0x3F => opFwUpdate
  | _ => fun _ _ => .just St.badOpcode

/-- Execute a request by its opcode (Table 5-4). A code that the table does not list meets BAD_OPCODE in the common checks. -/
def runOp (op : Nat) (r : Req) : Prog := serve op (opOf op) r

/-- The requests that wait for their turn are executed in their order, until one has to wait again (R32). -/
def serveParked : Prog :=
  .look fun s => .seq (modHp fun h => { h with parked := [] })
    (Prog.each s.hp.parked fun x => .look fun t => answer t x.1 (opOf x.1) x.2)

/-- ADC_CAL_STEP_COMPLETE (R32, R650 to R652): the samples are in, or the reference has fallen before they were; then the requests that waited follow. -/
def execAdcCalStepComplete (c : Conv) (samples : List Source) (refLost : Bool) (s : State) : Host.Outcome State Fault Refusal :=
  Prog.next (Prog.when (s.conv c).cal.isSome (Prog.all [Prog.when refLost refFall, calDone c samples, serveParked])) s

/-- HP_WRITE_REQUEST (R206, Table 5-6). -/
def execHpWriteRequest (bytes : List Byte) (s : State) : Host.Outcome State Fault Refusal := Prog.next (hpWrite runOp bytes) s

/-- PKT (R221, R223, R225). -/
def execPkt (p : Port) (f : RxFrame) (s : State) : Host.Outcome State Fault Refusal :=
  Prog.next (receiveFrame p 1 f (consumePkt runOp p f)) s

/-- An EVENT frame reaches the head (R536, R695, R696): a TICK_STATE goes to the report phase and is not logged. -/
def consumeEvent (f : RxFrame) : Prog :=
  let code := field f.payload 0 2
  let tick := BitVec.ofNat 32 (field f.payload 4 4)
  let data := BitVec.ofNat 32 (field f.payload 8 4)
  .look fun s => Prog.when s.isHead
    (if code = 0x0201 then takeState f.src.toNat tick data true
     else .seq (headEvent (BitVec.ofNat 16 code) f.src.toNat tick data)
      (Prog.when (code == 0x0202) (takeState f.src.toNat data 0 false)))

/-- EVENT (R695, R696). -/
def execEvent (p : Port) (f : RxFrame) (s : State) : Host.Outcome State Fault Refusal :=
  Prog.next (receiveFrame p 9 f (consumeEvent f)) s

end Sys2Proof.Machine
end

