-- ==== Sys2Proof/Machine/Receive.lean ====
section
/-! DEFINITION. What reaches the node as symbols on the lanes of a port or as bytes on the host port, before anything has been decided
about it: ordered sets, frames and transactions; and a cycle of the I/O clock. -/

namespace Sys2Proof.Machine

/-- An ordered set that has passed R133 acts by its TYPE (Table 4-2); an unknown TYPE is ignored and counted (R134). TRAIN sets count
lane by lane and are taken before (R165). -/
def takeSet (p : Port) (o : OSet) : Prog :=
  let d := fun n => o.data.getD n 0
  .look fun s =>
    if o.typ = 0x10 ∨ o = OSet.skp then .skip
    else if o.typ = 0x20 then Prog.when (p == .up) (takeTick (BitVec.ofNat 32 (leNat (o.data.take 4))) (d 4) s)
    else if o.typ = 0x21 then takeHalt p ((d 0).setWidth 6) (d 1 == 1) ((d 2).setWidth 4) (d 3) s
    else if o.typ = 0x30 then takeAck p (d 0) s
    else if o.typ = 0x31 then takeNak p (d 0) s
    else if o.typ = 0x32 then takeSeqsync p (d 0) s
    else if o.typ = 0x33 then takeCredit p (d 0 == 1) (BitVec.ofNat 16 (leNat ((o.data.drop 1).take 2))) s
    else if o.typ = 0x40 then takeProbe p (d 0)
    else if o.typ = 0x41 then .skip
    else Prog.when (s.portUsed p) (addSat Reg.rlOsCnt 31 0 1)

/-- One lane's part in training (R165): a valid TRAIN set counts, a SKP set stands outside the count, and anything else breaks the run. -/
def trainLane (p : Port) (lane1 : Bool) (o : Option OSet) : Prog :=
  let broken := modPort p fun q =>
    if lane1 then { q with train1 := brokenRun q.train1 } else { q with train0 := brokenRun q.train0 }
  match o with
  | some ⟨0x10, d⟩ => .look fun s => takeTrain p ⟨lane1, (s.port p).skew⟩ ((d.getD 1 0).setWidth 6) (d.getD 2 0) s
  | some o => if o = OSet.skp then .skip else broken
  | none => broken

/-- An ordered set is judged on both lanes: taken, or discarded and counted (R133). -/
def judgeSet (p : Port) (h : Heard) : Prog :=
  match receivedSet h with
  | some o => takeSet p o
  | none => addSat Reg.rlOsCnt 31 0 1

/-- The symbols of an ordered set reach a port (R131, R133, R165). -/
def receiveSet (p : Port) (l : Lanes) : Prog :=
  .look fun s =>
    let h := (s.port p).hear l
    Prog.when (s.portUsed p) (Prog.all [
      Prog.when (!(s.port p).up) (.seq (trainLane p false (laneSet h.lane0)) (trainLane p true (laneSet h.lane1))),
      judgeSet p h, noteHeard p l (symbolErrors h)])

/-- ORDERED_SET_DISCARD (R133): the set is judged on both lanes, and discarded and counted when neither passes. -/
def execOrderedSetDiscard (x : Reception) (s : State) : Host.Outcome State Fault Refusal := Prog.next (receiveSet x.port x.lanes) s

/-- A good frame acts by its TYPE (Table 4-4). -/
def receiveGood (p : Port) (typ : BitVec 4) (f : RxFrame) : Prog :=
  if typ = 1 then receiveFrame p 1 f (consumePkt runOp p f)
  else if typ = 2 then receiveToken p true f
  else if typ = 3 then receiveToken p false f
  else if typ = 9 then receiveFrame p 9 f (consumeEvent f)
  else
    let kind := field f.payload 0 1
    if kind = 0 then receiveOffer p f
    else if kind = 1 then receiveFrame p 4 f (headEnumReply f.payload)
    else receiveFrame p 4 f (Prog.when (decide (kind ≤ 3)) (headEnumEnd (kind == 3)))

/-- The bytes of a copy that ends in EDB: the received ones with the port's own SEQ up to the CRC, and the first half of a fresh CRC (R148).
What stands in place of a byte with a symbol error is free (log entry 57). -/
def voidBytes (free : Nat) (seq : Byte) (bytes : List (Option Byte)) : List Byte :=
  let body := (bytes.take (max 12 (2 * (bytes.length / 2) - 4))).mapIdx fun i b =>
    if i = 3 then seq else b.getD (Config.freeByte (free + i))
  body ++ (wordBytes (crc32 body)).take 2

/-- A frame that fails R142 has been forwarded once its header had arrived intact, and its copy ends in EDB in place of the end of its CRC
(R147, R148). A token frame whose WIN has passed starts no transmission (R155). The copy takes no sequence number (R143) and no credit:
log entry 57. -/
def voidCopy (p : Port) (bytes : List (Option Byte)) : Prog :=
  .look fun s =>
    let hdr := bytes.filterMap id
    let f := frameOf hdr
    let typ := frameType hdr
    let way := wayOf s.link.addr.toNat p f.dst.toNat
    let out := s.port p.opposite
    Prog.when (decide (12 ≤ bytes.length) && (bytes.take 12).all (fun b => b.isSome) && (s.port p).up && f.seq == (s.port p).rxExp &&
        (way == .forward || way == .both) && out.canStart typ (frameLen hdr) &&
        out.waiting.all (fun g => creditClass1 g.typ && !creditClass1 typ) && !(creditClass1 typ && winPassed s f.win))
      (.seq (modPort p.opposite fun q => { q with sent := q.sent ++ [.void (voidBytes s.free q.txSeq bytes)] })
        (Prog.when (bytes.any fun b => b.isNone) (Prog.times bytes.length .draw)))

/-- The symbols of a frame reach a port (R131, R142, R143, R148, R153). The sets that cut into it are taken as any others (R133, R135). -/
def receiveLanes (p : Port) (l : Lanes) : Prog :=
  .look fun s =>
    let h := (s.port p).hear l
    Prog.when (s.port p).up (Prog.all [
      Prog.each h.cut.sets (judgeSet p),
      match judgeFrame h.cut.frame with
      | .good typ f => receiveGood p typ f
      | .bad reason bytes => .seq (voidCopy p bytes) (badFrame p reason)
      | .void bytes => voidCopy p bytes,
      noteHeard p l (symbolErrors h)])

/-- BAD_FRAME (R142, R153): the frame is judged; a bad one is discarded, counted and NAKed. -/
def execBadFrame (p : Port) (l : Lanes) (s : State) : Host.Outcome State Fault Refusal := Prog.next (receiveLanes p l) s

/-- EDB_FRAME (R143): the frame is judged; one that ends in EDB is discarded without a NAK and consumes no sequence number. -/
def execEdbFrame (x : Reception) (s : State) : Host.Outcome State Fault Refusal := Prog.next (receiveLanes x.port x.lanes) s

/-- What a transaction's command byte asks for (Table 5-1). -/
inductive HpCommand where
  | write
  | readReply
  | readStatus
  deriving DecidableEq, Repr

/-- The command bytes of Table 5-1, single and quad (R202). -/
def hpCommand (code : Byte) : Option HpCommand :=
  if code = 0x61 ∨ code = 0x6A then some .write
  else if code = 0x62 ∨ code = 0x6B then some .readReply
  else if code = 0x63 then some .readStatus
  else none

/-- A transaction acts by its command byte (R202, R205). -/
def transaction (x : Transaction) : Prog :=
  match hpCommand x.code with
  | some .write => hpWrite runOp x.bytes
  | some .readReply => readReply x.clocked
  | some .readStatus => readStatus
  | none => .look fun s => Prog.when s.answers (.seq (modHp fun h => { h with sio := [] }) (setFlag .irqFrameErr))

/-- UNKNOWN_COMMAND_BYTE (R202, R205): a code that Table 5-1 does not list is discarded and sets FRAME_ERR; nothing is driven. -/
def execUnknownCommandByte (x : Transaction) (s : State) : Host.Outcome State Fault Refusal := Prog.next (transaction x) s

/-- A cycle of the I/O clock passes: each port sends the ordered set at the front of its queue (R132, R135), the trace buffer of the
instant is empty again, pairs whose WIN has passed leave the XE's buffer (R461), a cross entry that
can come no more is omitted (R607), and the meters run on (R278). -/
def idleCycle : Prog := Prog.all [linkCycle, modTrace fun t => { t with buffered := 0 }, purgePairs, crossLapse false, meterCycle]

/-- Edges at GPIO balls between two cycles of the I/O clock, which come where nothing holds a ball (R665; log entry 95). -/
def sampleGpios (before : State) : Prog :=
  .look fun s => Prog.each (List.range 8) fun n =>
    setFlagIf (before.gpioLevel n != s.gpioLevel n && s.edgeSelected n (s.gpioLevel n)) (edgeFlag n)

/-- What passes when no command waits: one cycle of 10 ns, at whose end the node samples its balls (R665, R667). DESIGN CHOICE, log entry 1. -/
def idle (s : State) : State :=
  let t := { idleCycle.run s with now := s.now + 10, cycle := Cycle.empty }
  (Prog.seq (sampleGpios (idleCycle.run s)) sampleAins).run t

end Sys2Proof.Machine
end

