-- ==== Sys2Proof/Machine/Dispatch.lean ====
section
/-! DEFINITION. The meaning of every command: one arm per row of spec/opcode_table.json. -/

namespace Sys2Proof.Machine

/-- What a command does to the block, its queue apart. -/
def exec (i : Instr) (s : State) : Host.Outcome State Fault Refusal :=
  match i with
  | .hpWriteRequest bytes => Sys2Proof.Machine.execHpWriteRequest bytes s
  | .hpReadReply clocked => Sys2Proof.Machine.execHpReadReply clocked s
  | .hpReadStatus => Sys2Proof.Machine.execHpReadStatus s
  | .unknownCommandByte x => Sys2Proof.Machine.execUnknownCommandByte x s
  | .ping r => Sys2Proof.Machine.execPing r s
  | .ident r => Sys2Proof.Machine.execIdent r s
  | .enumerate r => Sys2Proof.Machine.execEnumerate r s
  | .regRd r => Sys2Proof.Machine.execRegRd r s
  | .regWr r => Sys2Proof.Machine.execRegWr r s
  | .regRdBlock r => Sys2Proof.Machine.execRegRdBlock r s
  | .memRd r => Sys2Proof.Machine.execMemRd r s
  | .memWr r => Sys2Proof.Machine.execMemWr r s
  | .stageWr r => Sys2Proof.Machine.execStageWr r s
  | .check r => Sys2Proof.Machine.execCheck r s
  | .commit r => Sys2Proof.Machine.execCommit r s
  | .commitAt r => Sys2Proof.Machine.execCommitAt r s
  | .discard r => Sys2Proof.Machine.execDiscard r s
  | .store r => Sys2Proof.Machine.execStore r s
  | .storeComplete verified => Sys2Proof.Machine.execStoreComplete verified s
  | .recall r => Sys2Proof.Machine.execRecall r s
  | .loadImage r => Sys2Proof.Machine.execLoadImage r s
  | .start r => Sys2Proof.Machine.execStart r s
  | .stop r => Sys2Proof.Machine.execStop r s
  | .selectGrade r => Sys2Proof.Machine.execSelectGrade r s
  | .setLevel r => Sys2Proof.Machine.execSetLevel r s
  | .adcCal r => Sys2Proof.Machine.execAdcCal r s
  | .adcCalStepComplete c samples refLost => Sys2Proof.Machine.execAdcCalStepComplete c samples refLost s
  | .adcSnapshot r => Sys2Proof.Machine.execAdcSnapshot r s
  | .haltRelease r => Sys2Proof.Machine.execHaltRelease r s
  | .traceRd r => Sys2Proof.Machine.execTraceRd r s
  | .faultRd r => Sys2Proof.Machine.execFaultRd r s
  | .faultClr r => Sys2Proof.Machine.execFaultClr r s
  | .resultRd r => Sys2Proof.Machine.execResultRd r s
  | .resetNode r => Sys2Proof.Machine.execResetNode r s
  | .resetNodeDelayExpiry => Sys2Proof.Machine.execResetNodeDelayExpiry s
  | .fwUpdate r => Sys2Proof.Machine.execFwUpdate r s
  | .rtoExpiry dest tag => Sys2Proof.Machine.execRtoExpiry dest tag s
  | .registerWrite addr value => Sys2Proof.Machine.execRegisterWrite addr value s
  | .tickEnSet => Sys2Proof.Machine.execTickEnSet s
  | .tickEnClear => Sys2Proof.Machine.execTickEnClear s
  | .clr => Sys2Proof.Machine.execClr s
  | .swRegularTrigger c => Sys2Proof.Machine.execSwRegularTrigger c s
  | .swInjectedTrigger c => Sys2Proof.Machine.execSwInjectedTrigger c s
  | .go => Sys2Proof.Machine.execGo s
  | .wmProgComplete verified => Sys2Proof.Machine.execWmProgComplete verified s
  | .cntClr => Sys2Proof.Machine.execCntClr s
  | .adcDataRead c => Sys2Proof.Machine.execAdcDataRead c s
  | .qmaxRead n => Sys2Proof.Machine.execQmaxRead n s
  | .fltRowRead => Sys2Proof.Machine.execFltRowRead s
  | .resetNAssert lowNs => Sys2Proof.Machine.execResetNAssert lowNs s
  | .resetNRise straps => Sys2Proof.Machine.execResetNRise straps s
  | .brownOut supply => Sys2Proof.Machine.execBrownOut supply s
  | .brownOutRelease => Sys2Proof.Machine.execBrownOutRelease s
  | .pixBrown => Sys2Proof.Machine.execPixBrown s
  | .vddPixRestore => Sys2Proof.Machine.execVddPixRestore s
  | .wdt => Sys2Proof.Machine.execWdt s
  | .bootWdt => Sys2Proof.Machine.execBootWdt s
  | .reflexArmed mramReads => Sys2Proof.Machine.execReflexArmed mramReads s
  | .firmwareSlotStart => Sys2Proof.Machine.execFirmwareSlotStart s
  | .keeperUp refReady rowLinkOk => Sys2Proof.Machine.execKeeperUp refReady rowLinkOk s
  | .bistComplete b => Sys2Proof.Machine.execBistComplete b s
  | .levelPowerUpComplete => Sys2Proof.Machine.execLevelPowerUpComplete s
  | .tickEdge sp => Sys2Proof.Machine.execTickEdge sp s
  | .tickSetLaunch => Sys2Proof.Machine.execTickSetLaunch s
  | .tickInEdge => Sys2Proof.Machine.execTickInEdge s
  | .tickLost => Sys2Proof.Machine.execTickLost s
  | .endOfTicking => Sys2Proof.Machine.execEndOfTicking s
  | .tickEdgesStop => Sys2Proof.Machine.execTickEdgesStop s
  | .freeRunPassEnd sp => Sys2Proof.Machine.execFreeRunPassEnd sp s
  | .slotStart entry => Sys2Proof.Machine.execSlotStart entry s
  | .reservationEnd entry => Sys2Proof.Machine.execReservationEnd entry s
  | .guardStart => Sys2Proof.Machine.execGuardStart s
  | .entryComplete e => Sys2Proof.Machine.execEntryComplete e s
  | .resultPageCopyComplete => Sys2Proof.Machine.execResultPageCopyComplete s
  | .tickOutPulseEnd => Sys2Proof.Machine.execTickOutPulseEnd s
  | .thermalSample temps => Sys2Proof.Machine.execThermalSample temps s
  | .thermalIntervalEnd => Sys2Proof.Machine.execThermalIntervalEnd s
  | .thermHoldSample temps => Sys2Proof.Machine.execThermHoldSample temps s
  | .watchTimerEdge => Sys2Proof.Machine.execWatchTimerEdge s
  | .nop e => Sys2Proof.Machine.execNop e s
  | .sync e => Sys2Proof.Machine.execSync e s
  | .syncRelease e => Sys2Proof.Machine.execSyncRelease e s
  | .syncTmo e => Sys2Proof.Machine.execSyncTmo e s
  | .signal e => Sys2Proof.Machine.execSignal e s
  | .waitSlot e => Sys2Proof.Machine.execWaitSlot e s
  | .waitSlotRelease e => Sys2Proof.Machine.execWaitSlotRelease e s
  | .shapeSet e => Sys2Proof.Machine.execShapeSet e s
  | .matmul e => Sys2Proof.Machine.execMatmul e s
  | .conv e => Sys2Proof.Machine.execConv e s
  | .attend e => Sys2Proof.Machine.execAttend e s
  | .route => Sys2Proof.Machine.execRoute s
  | .quant => Sys2Proof.Machine.execQuant s
  | .rotate => Sys2Proof.Machine.execRotate s
  | .vecop => Sys2Proof.Machine.execVecop s
  | .scatter => Sys2Proof.Machine.execScatter s
  | .sort => Sys2Proof.Machine.execSort s
  | .exchange => Sys2Proof.Machine.execExchange s
  | .combine => Sys2Proof.Machine.execCombine s
  | .pixel => Sys2Proof.Machine.execPixel s
  | .heldEnqueue e => Sys2Proof.Machine.execHeldEnqueue e s
  | .tileHandOut g => Sys2Proof.Machine.execTileHandOut g s
  | .tileComplete unit => Sys2Proof.Machine.execTileComplete unit s
  | .stall unit waitUs => Sys2Proof.Machine.execStall unit waitUs s
  | .smMoveComplete => Sys2Proof.Machine.execSmMoveComplete s
  | .train p lane addr product => Sys2Proof.Machine.execTrain p lane addr product s
  | .tickSet num corr => Sys2Proof.Machine.execTickSet num corr s
  | .haltSet p src release mask hseq => Sys2Proof.Machine.execHaltSet p src release mask hseq s
  | .ack p seq => Sys2Proof.Machine.execAck p seq s
  | .nak p seq reason => Sys2Proof.Machine.execNak p seq reason s
  | .seqsync p next count => Sys2Proof.Machine.execSeqsync p next count s
  | .credit p class1 released => Sys2Proof.Machine.execCredit p class1 released s
  | .probe p index => Sys2Proof.Machine.execProbe p index s
  | .echo index roundTrip => Sys2Proof.Machine.execEcho index roundTrip s
  | .skp p => Sys2Proof.Machine.execSkp p s
  | .unknownOrderedSet p type => Sys2Proof.Machine.execUnknownOrderedSet p type s
  | .orderedSetDiscard x => Sys2Proof.Machine.execOrderedSetDiscard x s
  | .pkt p f => Sys2Proof.Machine.execPkt p f s
  | .tokA p f => Sys2Proof.Machine.execTokA p f s
  | .tokB p f => Sys2Proof.Machine.execTokB p f s
  | .pairDrop src pair => Sys2Proof.Machine.execPairDrop src pair s
  | .inboundWindowClose => Sys2Proof.Machine.execInboundWindowClose s
  | .enumOffer p f => Sys2Proof.Machine.execEnumOffer p f s
  | .enumReply p f => Sys2Proof.Machine.execEnumReply p f s
  | .endReply p f => Sys2Proof.Machine.execEndReply p f s
  | .overflowReply p f => Sys2Proof.Machine.execOverflowReply p f s
  | .event p f => Sys2Proof.Machine.execEvent p f s
  | .badFrame p l => Sys2Proof.Machine.execBadFrame p l s
  | .edbFrame x => Sys2Proof.Machine.execEdbFrame x s
  | .storedFrameForward p => Sys2Proof.Machine.execStoredFrameForward p s
  | .ackTimeout p => Sys2Proof.Machine.execAckTimeout p s
  | .winExpiry p => Sys2Proof.Machine.execWinExpiry p s
  | .linkDown p => Sys2Proof.Machine.execLinkDown p s
  | .dnWaitExpiry => Sys2Proof.Machine.execDnWaitExpiry s
  | .enumEndTimeout => Sys2Proof.Machine.execEnumEndTimeout s
  | .creditRefresh p => Sys2Proof.Machine.execCreditRefresh p s
  | .skpInterval p => Sys2Proof.Machine.execSkpInterval p s
  | .cmpRawChange n src => Sys2Proof.Machine.execCmpRawChange n src s
  | .cmpFilterExpiry n => Sys2Proof.Machine.execCmpFilterExpiry n s
  | .autoRelease n => Sys2Proof.Machine.execAutoRelease n s
  | .adcTimerTrigger c => Sys2Proof.Machine.execAdcTimerTrigger c s
  | .conversionDone c src => Sys2Proof.Machine.execConversionDone c src s
  | .moverCloseComplete => Sys2Proof.Machine.execMoverCloseComplete s
  | .refReady => Sys2Proof.Machine.execRefReady s
  | .refLoss => Sys2Proof.Machine.execRefLoss s
  | .armingTime => Sys2Proof.Machine.execArmingTime s
  | .strobeAssert => Sys2Proof.Machine.execStrobeAssert s
  | .exposureStart => Sys2Proof.Machine.execExposureStart s
  | .exposureEnd => Sys2Proof.Machine.execExposureEnd s
  | .strobeRelease => Sys2Proof.Machine.execStrobeRelease s
  | .imagerRow row light corrupt => Sys2Proof.Machine.execImagerRow row light corrupt s
  | .pixelComplete => Sys2Proof.Machine.execPixelComplete s
  | .imgReady => Sys2Proof.Machine.execImgReady s
  | .gpioEdge n drive => Sys2Proof.Machine.execGpioEdge n drive s
  | .handOverEnd => Sys2Proof.Machine.execHandOverEnd s
  | .faultRecord => Sys2Proof.Machine.execFaultRecord s
  | .blackBoxCopy readBack => Sys2Proof.Machine.execBlackBoxCopy readBack s
  | .traceSyncPulseEnd n => Sys2Proof.Machine.execTraceSyncPulseEnd n s

end Sys2Proof.Machine
end

