-- ==== Sys2Proof/Safety.lean ====
section
/-! DEFINITION. The terms that claims use: what holds of every well-formed state, and what it means that a node executes and
answers a request. -/

namespace Sys2Proof.Machine

/-- Memory is in its canonical form and lists only bytes of Table 0-4. -/
def memorySafe (s : State) : Prop := Memory.wf s.mem = true ∧ ∀ c ∈ s.mem, (regionOf c.1).isSome = true

/-- Registers are in canonical form, and no register holds a bit outside its readable fields: a reserved bit, or a field that only
writes, reads as 0 (R9, R10). -/
def registersSafe (s : State) : Prop :=
  AMap.canonFrom resetWord 0 s.regs = true ∧ ∀ e ∈ s.regs, e.2 &&& ~~~heldMask e.1 = 0

/-- The well-formed states: what every step keeps. -/
def State.safe (s : State) : Prop := memorySafe s ∧ registersSafe s

/-- The staging bank and the pending set hold at most one shadow of a register, by ascending address (R236). -/
def banksOrdered (s : State) : Prop :=
  s.stg.bank.Pairwise (fun x y => x.1 < y.1) ∧ ∀ p, s.stg.pend = some p → p.regs.Pairwise fun x y => x.1 < y.1

/-- The state in which the TAG of a request has entered its window (R227). -/
def State.touched (s : State) (r : Req) : State := (modWindow r.path (touchTag r.tag)).run s

/-- A request that its node answers, whose TAG its window does not hold, and that no earlier request keeps waiting (R32, Table 5-6 up to
step 8). -/
def Fresh (op : Nat) (r : Req) (s : State) : Prop :=
  s.answers = true ∧ s.hp.parked = [] ∧ ((s.hp.window r.path).find? fun e => e.tag == r.tag) = none ∧
    op ∈ knownOps ∧ (r.bcast = true → op ∈ broadcastOps) ∧ (s.keeperUp = true ∨ op ∈ romOps)

/-- The reply packet that a request gets from a node at an address. -/
def replyTo (t : State) (op : Nat) (r : Req) (status : Nat) (payload : List Byte) : List Byte :=
  replyPacket t.link.addr.toNat op r.tag status payload

/-- A request has completed: its window remembers the reply, and the reply is on its way: last in the reply queue for a
request of the host port that is no broadcast, in a PKT frame to address 1 for a request of the row whose link is up (R223, R227,
R232). -/
def Answered (op : Nat) (r : Req) (t : State) (status : Nat) (payload : List Byte) : Prop :=
  (∃ e ∈ t.hp.window r.path, e.tag = r.tag ∧ e.reply = some (replyTo t op r status payload)) ∧
    (r.path = .host → r.bcast = false → ∃ q, t.hp.queue.getLast? = some q ∧ q.bytes = replyTo t op r status payload ∧ q.tag = r.tag) ∧
    (r.path = .row → t.link.upPort.up = true → ∃ f ∈ t.link.upPort.replay ++ t.link.upPort.waiting,
      f.typ = 1 ∧ f.dst = 1 ∧ f.payload = padEven (replyTo t op r status payload))

/-- A command completes, and its next state has a property. -/
def Completes (c : Instr) (s : State) (P : State → Prop) : Prop := ∃ t, exec c s = .next t ∧ P t

/-- Every register but the listed ones holds what it held. -/
def regsBut (l : List Nat) (s t : State) : Prop := ∀ a, a ∉ l → t.stored a = s.stored a

/-- Every byte of memory holds what it held. -/
def sameMem (s t : State) : Prop := ∀ a, t.rd8 a = s.rd8 a

/-- Every unit but the host port and the Row Link is as it was: what a reply leaves alone. -/
def onlyPorts (s t : State) : Prop := t.units = { s.units with hp := t.units.hp, link := t.units.link }

/-- What the events of the present cycle of the I/O clock contribute to an RC register (R12). -/
def State.recent (s : State) (a : Nat) : Word := ((s.rcNote a).map fun r => r.events).getD 0

/-- A register after a read of it: its RC fields are cleared, and events of the present cycle stand alone (R12). -/
def State.afterRead (s : State) (a : Nat) : Word := (s.stored a &&& ~~~rcMask a) ||| (s.recent a &&& rcMask a)

/-- The comparators' raw outputs and the digital input buffers have been judged anew: each is what its input and its settings give, from what it
was (R628, R629, R667). -/
def rejudged (s t : State) : Prop :=
  (∀ n < 4, t.rfx.raw.getLsbD n = State.rawNow { t with units := { t.units with rfx := { t.rfx with raw := s.rfx.raw } } } n) ∧
    ∀ n < 16, t.ainDigital n = true →
      t.pins.ainBit.getLsbD n = State.ainLevel { t with units := { t.units with pins := { t.pins with ainBit := s.pins.ainBit } } } n

/-- The registers that answering a request can change: a broadcast whose last status this is can close with TIMEOUT
(R225, Table 5-8). -/
def replyRegs (r : Req) : List Nat := if r.bcast then [Reg.hpIrqStat, Reg.hpCnt3] else []

/-- What a reset clears (R99, R240, R737): units and registers take their reset values, memory that KEEP does not power is lost, and straps and
what the surroundings put on the node's balls are what they were. -/
def Cleared (phase : Phase) (s t : State) : Prop :=
  t.units = { Units.reset with
    pwr := t.pwr, pins := { Pins.reset with gpio := s.pins.gpio, driven := s.pins.driven, ain := s.pins.ain, ainBit := s.pins.ainBit } } ∧
  t.pwr = { Pwr.reset with
    phase := phase, bootAt := s.now, resetLow := t.pwr.resetLow, strapsKept := t.pwr.strapsKept, straps := s.pwr.straps,
    strapPins := s.pwr.strapPins, brown := t.pwr.brown, vddPixLow := s.pwr.vddPixLow, triedA := t.pwr.triedA, triedB := t.pwr.triedB } ∧
  (∀ a, a ≠ Reg.pwrRstCause → t.stored a = resetWord a) ∧ (∀ a, regionOf a ≠ none → regionOf a ≠ some .mram → t.rd8 a = 0)

/-- A reset of the node from a source of PWR_RST_CAUSE (R99, R103). Causes add up while a reset lasts. -/
def ResetOf (cause : Nat) (phase : Phase) (s t : State) : Prop :=
  Cleared phase s t ∧
    t.stored Reg.pwrRstCause = (if s.pwr.phase = .inReset then s.stored Reg.pwrRstCause else 0) ||| BitVec.ofNat 32 (2 ^ cause)

/-- The node has left RUN: the image is gone, with the schedule, a START that waited and all work (R122, R348). -/
def LeftRun (t : State) : Prop :=
  t.eng = Eng.reset ∧ t.stored Reg.stgMapHash = 0 ∧ t.tick.sched = false ∧ t.tick.startAt = none ∧ t.dsp.holdsWork = false ∧
    t.xe.inbound = none

/-- The node has left WATCH: the standing model is gone, with its filters, its frame and all work (R122, R583). -/
def LeftWatch (t : State) : Prop :=
  t.wm.present = false ∧ t.wm.onCount = 0 ∧ t.wm.offCount = 0 ∧ t.wm.frame = false ∧ t.dsp.holdsWork = false

/-- The node has entered KEEP: the imager is off, no converter converts, and the reference and held zero steps are gone (R591, R623, R654). -/
def InKeep (t : State) : Prop :=
  t.img.on = false ∧ t.img.ready = false ∧ t.adc.refReady = false ∧
    ∀ c, (t.conv c).reg = none ∧ (t.conv c).inj = none ∧ (t.conv c).held = none ∧ (t.conv c).zero = none

/-- A change of level has taken effect (R119, R122): no change is pending, what the left level carried is gone, and above KEEP the imager is
switched on (R556). -/
def Entered (l : Level) (s t : State) : Prop :=
  t.pwr.level = l ∧ t.pwr.pend = none ∧ (s.pwr.level = .run → l ≠ .run → LeftRun t) ∧ (s.pwr.level = .watch → l ≠ .watch → LeftWatch t) ∧
    (s.pwr.level ≠ .keep → l = .keep → InKeep t) ∧
    (s.pwr.level = .keep → l ≠ .keep → s.imagerPresent = true → s.pwr.vddPixLow = false → t.img.on = true)

/-- A change to a higher level that powers up is one to a higher level (R119). -/
def PendsUpward (s : State) : Prop := ∀ l, s.pwr.pend = some l → s.pwr.pendReady = false → levelCode s.pwr.level < levelCode l

/-- TH_AVG is at or above T_CRIT (R304). -/
def AtCrit (t : State) : Prop := 16 * Int.ofNat (t.fld Reg.thLimits 23 16) ≤ signed 16 (t.fld Reg.thAvg 15 0)

/-- Every byte of MRAM holds what it held. -/
def sameMram (s t : State) : Prop := ∀ a, regionOf a = some .mram → t.rd8 a = s.rd8 a

/-- The state with a port replaced. -/
def State.withPort (s : State) (p : Port) (q : PortSt) : State :=
  { s with units := { s.units with link := match p with
    | .up => { s.link with upPort := q }
    | .dn => { s.link with dnPort := q } } }

/-- A frame arrives in sequence on a port whose link is up, with a LEN that suits its TYPE (R142, R151). -/
def InSequence (p : Port) (typ : BitVec 4) (f : RxFrame) (s : State) : Prop :=
  (s.port p).up = true ∧ goodLen typ f.payload.length = true ∧ f.seq = (s.port p).rxExp

/-- The state in which a frame has been accepted: the next SEQ is expected, and its ACK waits to be sent (R151). -/
def State.accepted (s : State) (p : Port) (f : RxFrame) : State :=
  s.withPort p { s.port p with
    rxExp := (s.port p).rxExp + 1, osets := insertOset ⟨0x30, [f.seq, 0, 0, 0, 0]⟩ (s.port p).osets }

/-- The state in which a NAK set that names the expected SEQ waits to be sent (R153). -/
def State.afterNak (s : State) (p : Port) (reason : Nat) : State :=
  s.withPort p { s.port p with
    nakFor := ((s.port p).nakFor.filter fun n => decide (s.now - n.2 < 4000)) ++ [((s.port p).rxExp, s.now)]
    osets := insertOset ⟨0x31, [(s.port p).rxExp, BitVec.ofNat 8 reason, 0, 0, 0]⟩ (s.port p).osets }

/-- The state in which a NAK of the expected SEQ has been sent for a REASON, unless one was sent within 4 µs (R153). -/
def State.nakked (s : State) (p : Port) (reason : Nat) : State :=
  if ∃ n ∈ (s.port p).nakFor, n.1 = (s.port p).rxExp ∧ s.now - n.2 < 4000 then s else s.afterNak p reason

/-- A frame that is to be sent on a port whose link is up has been started, and so is in the replay buffer, or waits. -/
def Sends (p : Port) (t : State) (typ : BitVec 4) (dst : BitVec 6) (payload : List Byte) : Prop :=
  (t.port p).up = true → ∃ g ∈ (t.port p).replay ++ (t.port p).waiting, g.typ = typ ∧ g.dst = dst ∧ g.payload = payload

/-- Symbol errors of a port within 1 µs, with n more (R168). -/
def State.errorsWith (s : State) (p : Port) (n : Nat) : List Nat :=
  ((s.port p).errs.filter fun t => decide (s.now - t ≤ 1000)) ++ List.replicate n s.now

/-- The state in which a port has noted a reception with n symbol errors, and the lanes' running disparities behind it. -/
def State.withHeard (s : State) (p : Port) (l : Lanes) (n : Nat) : State :=
  s.withPort p { (s.port p).listened l with errs := s.errorsWith p n }

/-- The state in which the runs of TRAIN sets of a port without a link are broken, but for those that have reached sixteen (R165). -/
def State.broken (s : State) (p : Port) : State :=
  if (s.port p).up then s
  else s.withPort p { s.port p with
    train0 := if (s.port p).train0 = 16 then 16 else 0, train1 := if (s.port p).train1 = 16 then 16 else 0 }

/-- The row of the opcode table that an ordered set is, which has passed on a port whose link is up (Table 4-2). -/
def setRow (p : Port) (o : OSet) : Option Instr :=
  let d := fun n => o.data.getD n 0
  if o.typ = 0x20 then (if p = .up then some (.tickSet (BitVec.ofNat 32 (leNat (o.data.take 4))) (d 4)) else none)
  else if o.typ = 0x21 then some (.haltSet p ((d 0).setWidth 6) (d 1 == 1) ((d 2).setWidth 4) (d 3))
  else if o.typ = 0x30 then some (.ack p (d 0)) else if o.typ = 0x31 then some (.nak p (d 0) (d 1))
  else if o.typ = 0x32 then some (.seqsync p (d 0) (d 1))
  else if o.typ = 0x33 then some (.credit p (d 0 == 1) (BitVec.ofNat 16 (leNat ((o.data.drop 1).take 2))))
  else if o.typ = 0x40 then some (.probe p (d 0)) else if o = OSet.skp then some (.skp p) else none

/-- The row of the opcode table that a good frame is (Tables 4-4 and 4-6). -/
def frameRow (p : Port) (typ : BitVec 4) (f : RxFrame) : Option Instr :=
  let kind := field f.payload 0 1
  if typ = 1 then some (.pkt p f) else if typ = 2 then some (.tokA p f) else if typ = 3 then some (.tokB p f)
  else if typ = 9 then some (.event p f)
  else if typ = 4 then (if kind = 0 then some (.enumOffer p f) else if kind = 1 then some (.enumReply p f)
    else if kind = 2 then some (.endReply p f) else if kind = 3 then some (.overflowReply p f) else none)
  else none

/-- The row of the opcode table that an opcode's request is (Table 5-4). -/
def rowOf (op : Nat) (r : Req) : Option Instr :=
  if op = 0x01 then some (.ping r) else if op = 0x02 then some (.ident r) else if op = 0x03 then some (.enumerate r)
  else if op = 0x08 then some (.regRd r) else if op = 0x09 then some (.regWr r) else if op = 0x0A then some (.regRdBlock r)
  else if op = 0x0C then some (.memRd r) else if op = 0x0D then some (.memWr r) else if op = 0x10 then some (.stageWr r)
  else if op = 0x11 then some (.check r) else if op = 0x12 then some (.commit r) else if op = 0x13 then some (.discard r)
  else if op = 0x14 then some (.store r) else if op = 0x15 then some (.recall r) else if op = 0x16 then some (.commitAt r)
  else if op = 0x18 then some (.loadImage r) else if op = 0x19 then some (.start r) else if op = 0x1A then some (.stop r)
  else if op = 0x1B then some (.selectGrade r) else if op = 0x1C then some (.setLevel r) else if op = 0x20 then some (.adcCal r)
  else if op = 0x21 then some (.adcSnapshot r) else if op = 0x22 then some (.haltRelease r) else if op = 0x24 then some (.traceRd r)
  else if op = 0x28 then some (.faultRd r) else if op = 0x29 then some (.faultClr r) else if op = 0x30 then some (.resultRd r)
  else if op = 0x3E then some (.resetNode r) else if op = 0x3F then some (.fwUpdate r) else none

/-- The state with a converter replaced. -/
def State.withConv (s : State) (c : Conv) (k : ConvSt) : State :=
  { s with units := { s.units with adc := match c with
    | .a => { s.adc with a := k }
    | .b => { s.adc with b := k } } }

/-- The state in which a register's staged fields have been written into the bank (R237). -/
def State.staged (s : State) (a : Nat) (v : Word) : State :=
  { s with units := { s.units with stg := { s.stg with
    bank := putShadow a (masked (s.prospective a) (stagedMask a) v &&& stagedMask a) s.stg.bank } } }

/-- A byte at address a lies in n bytes from p. -/
def insideOf (p n a : Nat) : Prop := p ≤ a ∧ a < p + n

/-- A byte at address a belongs to an element of a tensor (R323, R324). -/
def ofElem (y : Tref) (r c a : Nat) : Prop := insideOf (y.addr + y.bitAt r c / 8) (max 1 (fmtBits y.fmt / 8)) a

/-- The elements of some rows and columns of a tensor lie apart from each other, in one range of memory that units can write. -/
def Placed (y : Tref) (rows cols : List Nat) : Prop :=
  y.cols * fmtBits y.fmt ≤ y.pitch ∧ (∀ c ∈ cols, c < y.cols) ∧ (∀ r ∈ rows, inOneRange y.addr (y.span (r + 1)) = true) ∧
    regionOf y.addr ≠ some .mram

/-- The scratch block of a work item. -/
def scratchBase (s : State) (d : Desc) (i : Item) : Nat :=
  ((s.dsp.scratch.find? fun b => b.desc == d.id && b.block == itemBlock d i).map fun b => b.addr).getD 0

/-- A byte that a work item of a command writes (Table 9-1): elements of its output, partial sums, a mask, scores or weights in its scratch
block, tags and gates; and the shape words of the last item of a ROUTE. -/
def itemWrites (d : Desc) (i : Item) (base a : Nat) : Prop :=
  let ws := d.words
  let elems := fun (y : Tref) (rows cols : List Nat) => ∃ r ∈ rows, ∃ c ∈ cols, ofElem y r c a
  let mask := ∃ q < (blockQueries d i.tile).length, insideOf (maskAddr ws base q 0) (paddedKeys ws / 8) a
  let scores := ∃ q < (blockQueries d i.tile).length, insideOf (scoreAddr ws base q 0) (4 * d.keys) a
  let b := i.tile / d.kSplit
  let ranks := routeRanks ws
  (d.typ = 6 ∧ d.left ≤ 1 ∧ wordAt ws 8 ≠ 0 ∧ insideOf (wordAt ws 8).toNat (4 * bits (wordAt ws 7) 8 0) a) ∨
  (if (i.typ ≤ 1 ∧ d.kSplit ≤ 1) ∨ 10 ≤ i.typ then elems (trefAt ws 9) (blockRows d i.tile) (blockCols d i.tile)
   else if i.typ ≤ 1 then ∃ m ∈ blockRows d b, ∃ n ∈ blockCols d b,
     insideOf (partialAddr d base (i.tile % d.kSplit) (m - (blockRows d b).headD 0) (n - (blockCols d b).headD 0)) 4 a
   else if i.typ = 2 then mask
   else if i.typ = 3 then (d.typ ≠ 2 ∧ mask) ∨ scores
   else if i.typ = 4 then scores
   else if i.typ = 5 then elems (trefAt ws 13) (blockQueries d i.tile)
     ((List.range (heads ws).2).map fun c => blockHead d i.tile * (heads ws).2 + c)
   else if i.typ = 6 then ∃ r ∈ vectorRows d i.tile,
     insideOf ((wordAt ws 5).toNat + 4 * (r * ranks)) (4 * ranks) a ∨ insideOf ((wordAt ws 6).toNat + 2 * (r * ranks)) (2 * ranks) a
   else elems (trefAt ws 5) (vectorRows d i.tile)
     (List.range (if i.typ = 7 then (trefAt ws 1).cols else if i.typ = 8 then (trefAt ws 5).cols else min (trefAt ws 1).cols (trefAt ws 5).cols)))

/-- The elements that a matrix tile, a reduce item, a QUANT, a ROTATE or a VECOP item computes: their tensor, rows, columns and codes (Tables
9-1 and 10-3, R382, R430 to R435). -/
def itemOut (s : State) (d : Desc) (i : Item) (base : Nat) : Option (Tref × List Nat × List Nat × (Nat → Nat → Nat)) :=
  let ws := d.words
  let rows := blockRows d i.tile
  let cols := blockCols d i.tile
  let xs := (trefAt ws 1).cols
  if i.typ ≤ 1 then
    if d.kSplit ≤ 1 then
      some (trefAt ws 9, rows, cols, fun m n => (postProcess s ws n (rowSum s ws m n) (chunkAcc s ws m n 0 (redLen ws)).1).1.code)
    else none
  else if i.typ = 10 then
    some (trefAt ws 9, rows, cols, fun m n =>
      let part := fun ks => s.rd32 (partialAddr d base ks (m - rows.headD 0) (n - cols.headD 0))
      let acc := (span 1 d.kSplit).foldl (fun acc ks => (addAcc (intPath ws) acc (part ks)).1) (part 0)
      (postProcess s ws n (reducedSum s d i.tile ((m - rows.headD 0) * cols.length + (n - cols.headD 0))) acc).1.code)
  else if i.typ = 7 then some (trefAt ws 5, vectorRows d i.tile, List.range xs, fun r c => (quantElem s ws r c).code)
  else if i.typ = 8 then
    some (trefAt ws 5, vectorRows d i.tile, List.range (trefAt ws 5).cols, fun r c => (rotateElem s ws r c).code)
  else if i.typ = 9 then
    some (trefAt ws 5, vectorRows d i.tile, List.range (min xs (trefAt ws 5).cols), fun r c =>
      (narrow (trefAt ws 5).fmt ((vecRow s ws r)[c]?.getD .nan)).code)
  else none

/-- A half of a token pair arrives in time and meets the other half, while a command takes the inbound traffic of its source: no other pair waits
for the XE (R194 to R198, R461). -/
def PairArrives (isA : Bool) (p : Port) (f : RxFrame) (h : Half) (b : Inbound) (l : Layer) (g : Seg) (s : State) : Prop :=
  InSequence p (if isA = true then 2 else 3) f s ∧ (f.dst = s.link.addr ∨ f.dst = 0) ∧ winPassed s f.win = false ∧
    s.link.halves.find? (fun h => h.isA != isA && h.src == f.src && h.pair == f.aux) = some h ∧ s.xe.inbound = some b ∧
    s.layer? b.layer = some l ∧ b.segs.find? (fun g => g.src == f.src.toNat) = some g ∧ s.xe.pairs = []

/-- The tokens and control words of the pair that two halves make (Table 4-9). -/
def tokensOf (isA : Bool) (f : RxFrame) (h : Half) : List Token :=
  if isA = true then pairTokens f.payload h.payload else pairTokens h.payload f.payload

/-- The segment of a source changes. -/
def Inbound.withSeg (b : Inbound) (src : Nat) (k : Seg → Seg) : Inbound :=
  { b with segs := b.segs.map fun g => if g.src == src then k g else g }

/-- A token stands in row j of a wire tensor with tags (R455, R467). -/
def TokenAt (t : State) (a rows w j : Nat) (k : Token) : Prop :=
  t.rdBytes (a + j * w) w = k.row ∧ t.rd8 (a + wireScale rows w j) = k.scale ∧ t.rd32 (a + wireTag rows w j) = k.tag

/-- The command at the head of an engine's list has issued: the list stands behind its words, and the other engines' lists stand
where they stood (R318). -/
def Advanced (e : Engine) (r : Run) (words : Nat) (s t : State) : Prop :=
  t.runOf e = some { r with pos := r.pos + words, block := .none, ended := decide (r.len ≤ r.pos + words), waited := false } ∧
    (r.both = false → ∀ x, x ≠ e → t.runOf x = s.runOf x)

/-- The XE's inbound traffic has ended: its fence counter is one higher, and the list goes on behind the command that waited (R466, R473,
R478). -/
def InboundEnded (b : Inbound) (s t : State) : Prop :=
  t.xe.inbound = none ∧ t.fence b.fc = min (s.fence b.fc + 1) 65535 ∧ (∀ n < 64, n ≠ b.fc → t.fence n = s.fence n) ∧
    ∀ r, s.eng.xe = some r → match r.block with
      | .busy ws => Advanced .xe r ws.length s t
      | _ => t.eng = s.eng

/-- The ENG_POS registers (Table 8-14). -/
def engPosRegs : List Nat := [Reg.engPos0, Reg.engPos0 + 4, Reg.engPos0 + 8, Reg.engPos0 + 12, Reg.engPos0 + 16]

end Sys2Proof.Machine
end

