-- ==== Sys2Proof/Certificates/Slice0/Obligations.lean ====
section
/-! DEFINITION. The statements about the model, for the provers: what every command does, what it leaves alone, and the rules
of the whole machine. -/

open Sys2Proof Sys2Proof.Machine

/-- A step takes the command at the front of the queue and carries it out on the block with the queue's rest. -/
def Obligations.StepRunsFrontCommand : Prop :=
  ∀ (c : Instr) (s : State), step { s with pending := c :: s.pending } = exec c s

/-- PING (0x01) returns its payload, and IDENT (0x02) eight register words, or BAD_PARAM for a payload (R212, Table 5-4). Both leave
everything but the ports alone. MEM_RD (0x0C) returns the bytes of one powered memory range; other requests get BAD_PARAM, BAD_ADDR or
DENIED (R213, R220, R742). TRACE_RD (0x24) returns records of the trace ring, on the same grounds (R396);
that a read goes on at the ring's start is the model's choice, log entry 27. -/
def Obligations.PingsAndMemoryReadsAnswer : Prop :=
  ((∀ r s, Fresh 0x01 r s →
     Completes (.ping r) s fun t => Answered 0x01 r t 0x00 r.payload ∧ onlyPorts s t ∧ regsBut (replyRegs r) s t ∧ sameMem s t) ∧
   (∀ r s, Fresh 0x02 r s →
     Completes (.ident r) s fun t =>
       (if r.payload = [] then
         Answered 0x02 r t 0x00
           ([Reg.sysId, Reg.sysRev, Reg.sysNode, Reg.sysCaps, Reg.rlSerialLo, Reg.rlSerialHi, Reg.pwrFwSeq, Reg.pwrStat].flatMap
             fun a => wordBytes (s.readReg a))
        else Answered 0x02 r t 0x04 []) ∧
       onlyPorts s t ∧ regsBut (replyRegs r) s t ∧ sameMem s t)) ∧
  ((∀ r s, Fresh 0x0C r s →
     let a := field r.payload 0 4
     let n := field r.payload 4 2
     Completes (.memRd r) s fun t =>
       (if r.payload.length ≠ 8 ∨ n = 0 ∨ 4096 < n ∨ field r.payload 6 2 ≠ 0 then Answered 0x0C r t 0x04 []
        else if inOneRange a n = false then Answered 0x0C r t 0x05 []
        else if s.poweredAll a n = false then Answered 0x0C r t 0x09 []
        else Answered 0x0C r t 0x00 ((List.range n).map fun i => s.rd8 (a + i))) ∧
       onlyPorts s t ∧ regsBut [] s t ∧ sameMem s t) ∧
   (∀ r s, Fresh 0x24 r s →
     let off := field r.payload 0 4
     let n := field r.payload 4 2
     let at' := fun i => (s.stored Reg.trBase).toNat + (off + i) % 0x40000
     Completes (.traceRd r) s fun t =>
       (if r.payload.length ≠ 8 ∨ off % 16 ≠ 0 ∨ 0x40000 ≤ off ∨ n = 0 ∨ 256 < n ∨ field r.payload 6 2 ≠ 0 then
          Answered 0x24 r t 0x04 []
        else if ∃ i < n, regionOf (at' (16 * i)) = none then Answered 0x24 r t 0x05 []
        else if (∀ i < n, s.powered (at' (16 * i)) = true) then
          Answered 0x24 r t 0x00 ((List.range (16 * n)).map fun i => s.rd8 (at' i))
        else Answered 0x24 r t 0x09 []) ∧
       onlyPorts s t ∧ regsBut [] s t ∧ sameMem s t))

/-- REG_RD (0x08) and REG_RD_BLOCK (0x0A) return register words, or BAD_PARAM for a wrong form and BAD_ADDR for an address that is not
aligned or leaves the register range; a read returns RC fields as they were before the present cycle's events, clears them, leaves those
events alone, and changes nothing else (R12, R213, R214). So do the reads that stand as commands, of ADC_x_DATA, DSP_QMAX and FLT_ROW; a read
of ADC_x_DATA in the cycle of an overrun also undoes that overrun (R12, R610, R611, R696). -/
def Obligations.RegisterReadsAnswer : Prop :=
  ((∀ r s, Fresh 0x08 r s → s.safe →
     let a := field r.payload 0 4
     Completes (.regRd r) s fun t =>
       (if r.payload.length ≠ 4 then Answered 0x08 r t 0x04 [] ∧ regsBut [] s t
        else if a % 4 = 0 ∧ 0x08000000 ≤ a ∧ a < 0x08100000 then
          Answered 0x08 r t 0x00 (wordBytes (s.readReg a)) ∧ t.stored a = s.afterRead a ∧
            regsBut (if s.cycle.ovr = [] then [a] else [a, Reg.adcFlags, Reg.adcCnt0]) s t
        else Answered 0x08 r t 0x05 [] ∧ regsBut [] s t) ∧
       onlyPorts s t ∧ sameMem s t) ∧
   (∀ r s, Fresh 0x0A r s → s.safe →
     let a := field r.payload 0 4
     let n := field r.payload 4 2
     Completes (.regRdBlock r) s fun t =>
       (if r.payload.length ≠ 8 ∨ n = 0 ∨ 1024 < n ∨ field r.payload 6 2 ≠ 0 then Answered 0x0A r t 0x04 [] ∧ regsBut [] s t
        else if a % 4 = 0 ∧ 0x08000000 ≤ a ∧ a + 4 * n ≤ 0x08100000 then
          Answered 0x0A r t 0x00 ((List.range n).flatMap fun i => wordBytes (s.readReg (a + 4 * i))) ∧
            (∀ i < n, a + 4 * i ≠ Reg.adcFlags → a + 4 * i ≠ Reg.adcCnt0 → t.stored (a + 4 * i) = s.afterRead (a + 4 * i)) ∧
            regsBut ((if s.cycle.ovr = [] then [] else [Reg.adcFlags, Reg.adcCnt0]) ++ (List.range n).map fun i => a + 4 * i) s t
        else Answered 0x0A r t 0x05 [] ∧ regsBut [] s t) ∧
       onlyPorts s t ∧ sameMem s t)) ∧
  ((∀ c s, s.safe → Completes (.adcDataRead c) s fun t =>
     let a := match c with | .a => Reg.adcAData | .b => Reg.adcBData
     t.stored a = (s.stored a &&& ~~~(0x80000000 : Word)) ||| (s.recent a &&& 0x80000000) ∧
       (match s.cycle.ovr.find? fun o => o.conv == c with
        | none => regsBut [a] s t
        | some o =>
          t.fld Reg.adcFlags (match c with | .a => 0 | .b => 1) (match c with | .a => 0 | .b => 1) = o.flag % 2 ∧
            regsBut [a, Reg.adcFlags, Reg.adcCnt0] s t) ∧
       t.units = s.units ∧ sameMem s t) ∧
   (∀ (i : Fin 4) s, s.safe → Completes (.qmaxRead i) s fun t =>
     let a := Reg.dspQmax01 + 4 * i.val
     t.stored a &&& 0x01FF01FF = s.recent a &&& 0x01FF01FF ∧ regsBut [a] s t ∧ t.units = s.units ∧ sameMem s t) ∧
   (∀ s, s.safe → Completes .fltRowRead s fun t =>
     t.stored Reg.fltRow = s.recent Reg.fltRow ∧ regsBut [Reg.fltRow] s t ∧ t.units = s.units ∧ sameMem s t) ∧
   (∀ s : State, ∀ a ∈ [Reg.adcAData, Reg.adcBData, Reg.dspQmax01, Reg.dspQmax01 + 4, Reg.dspQmax01 + 8, Reg.dspQmax01 + 12, Reg.fltRow],
     s.readReg a = match s.rcNote a with
       | some r => r.before
       | none => s.stored a))

/-- MEM_WR (0x0D) stores its data and nothing else, or is refused: BAD_PARAM without data, BAD_ADDR outside one memory range, DENIED for
memory that is not powered, for MRAM and for the loaded image (R213, R215, R322, R742). -/
def Obligations.MemoryWritesStore : Prop :=
  ∀ r s, Fresh 0x0D r s → s.safe →
    let a := field r.payload 0 4
    let data := r.payload.drop 4
    let image := match s.eng.image with
      | none => false
      | some im => overlaps a data.length im.addr im.size
    Completes (.memWr r) s fun t =>
      (if r.payload.length < 5 then Answered 0x0D r t 0x04 [] ∧ sameMem s t
       else if inOneRange a data.length = false then Answered 0x0D r t 0x05 [] ∧ sameMem s t
       else if s.poweredAll a data.length = false ∨ regionOf a = some .mram ∨ image = true then Answered 0x0D r t 0x09 [] ∧ sameMem s t
       else Answered 0x0D r t 0x00 [] ∧ (∀ i : Nat, (h : i < data.length) → t.rd8 (a + i) = data[i]) ∧
         ∀ b, b < a ∨ a + data.length ≤ b → t.rd8 b = s.rd8 b) ∧
      onlyPorts s t ∧ regsBut [] s t

/-- STAGE_WR (0x10) writes each entry, in order, under its mask into the staging bank and leaves every live register alone; a wrong length,
a MASK outside the staged-class fields or an ADDR without any stops the whole packet with BAD_PARAM or BAD_ADDR (R216, R217, R236, R237). -/
def Obligations.StageWriteFillsBank : Prop :=
  ∀ r s, Fresh 0x10 r s →
    let entries : List (Nat × Word × Word) := (List.range (r.payload.length / 12)).map fun i =>
      (field r.payload (12 * i) 4, BitVec.ofNat 32 (field r.payload (12 * i + 4) 4), BitVec.ofNat 32 (field r.payload (12 * i + 8) 4))
    let bad := fun e : Nat × Word × Word => stagedMask e.1 = 0 ∨ e.2.1 &&& ~~~stagedMask e.1 ≠ 0
    let badForm := r.payload.length = 0 ∨ r.payload.length % 12 ≠ 0 ∨ 4092 < r.payload.length
    Completes (.stageWr r) s fun t =>
      (badForm → Answered 0x10 r t 0x04 [] ∧ t.stg = s.stg) ∧
      (¬badForm → ∀ l e m, entries = l ++ e :: m → (∀ x ∈ l, ¬bad x) → bad e →
        Answered 0x10 r t (if stagedMask e.1 = 0 then 0x05 else 0x04) [] ∧ t.stg = s.stg) ∧
      (¬badForm → (∀ x ∈ entries, ¬bad x) →
        Answered 0x10 r t 0x00 [] ∧ t.stg.pend = s.stg.pend ∧
        ∀ a, let mine := entries.filter fun e => decide (e.1 = a) && decide (e.2.1 ≠ 0)
          t.prospective a = mine.foldl (fun w e => (w &&& ~~~e.2.1) ||| (e.2.2 &&& e.2.1)) (s.prospective a) ∧
          ((shadowOf t.stg.bank a).isSome = true ↔ (shadowOf s.stg.bank a).isSome = true ∨ mine ≠ [])) ∧
      regsBut [] s t ∧ sameMem s t ∧ onlyPorts { s with units := { s.units with stg := t.stg } } t

/-- A masked write of staged fields by a register write goes to the bank, not to the live register; direct fields, W1C fields and fields
that only read behave by their class, and a W1C bit that hardware set in the same cycle stays set (R9, R11, R14, R15, R215, R237). REG_WR of any
register, those whose write does more among them, changes what a REGISTER_WRITE of it does and is answered OK (R213, R215). -/
def Obligations.RegisterWriteActsByClass : Prop :=
  let plain := fun a : Nat => a ∉ [Reg.tickCtrl, Reg.enCtrl, Reg.adcSwtrig, Reg.wmProg, Reg.fltCtrl, Reg.dspScratch, Reg.trBase, Reg.pmGpioOut, Reg.tdacCtrl]
  let wrote := fun (a : Nat) (v : Word) (s t : State) =>
    (stagedMask a ≠ 0 → t.prospective a &&& stagedMask a = v &&& stagedMask a ∧ (shadowOf t.stg.bank a).isSome = true) ∧
    (∀ b, b ≠ a ∨ stagedMask a = 0 → shadowOf t.stg.bank b = shadowOf s.stg.bank b) ∧
    t.stored a &&& stagedMask a = s.stored a &&& stagedMask a ∧
    t.stored a &&& directMask a = v &&& directMask a ∧
    t.stored a &&& w1cMask a = s.stored a &&& ~~~(v &&& ~~~notedBits s.cycle.flags a) &&& w1cMask a ∧
    t.stored a &&& ~~~(directMask a ||| w1cMask a) = s.stored a &&& ~~~(directMask a ||| w1cMask a) ∧
    regsBut [a] s t ∧ sameMem s t
  (∀ r s, Fresh 0x09 r s → s.safe →
    let a := field r.payload 0 4
    let v := BitVec.ofNat 32 (field r.payload 4 4)
    Completes (.regWr r) s fun t =>
      (r.payload.length ≠ 8 → Answered 0x09 r t 0x04 [] ∧ t.stg = s.stg ∧ regsBut [] s t ∧ sameMem s t) ∧
      (r.payload.length = 8 → ¬(a % 4 = 0 ∧ 0x08000000 ≤ a ∧ a < 0x08100000) →
        Answered 0x09 r t 0x05 [] ∧ t.stg = s.stg ∧ regsBut [] s t ∧ sameMem s t) ∧
      (r.payload.length = 8 → a % 4 = 0 ∧ 0x08000000 ≤ a ∧ a < 0x08100000 → plain a →
        Answered 0x09 r t 0x00 [] ∧ wrote a v s t ∧ onlyPorts { s with units := { s.units with stg := t.stg } } t) ∧
      (r.payload.length = 8 → a % 4 = 0 ∧ 0x08000000 ≤ a ∧ a < 0x08100000 →
        ∃ u, exec (.registerWrite (BitVec.ofNat 32 a) v) (s.touched r) = .next u ∧
          Answered 0x09 r t 0x00 [] ∧ regsBut [] u t ∧ onlyPorts u t ∧ sameMem u t)) ∧
  (∀ (addr value : Word) s, s.safe → plain addr.toNat →
    Completes (.registerWrite addr value) s fun t => wrote addr.toNat value s t ∧ t.units = { s.units with stg := t.stg })

/-- CHECK (0x11) answers FAIL with OK or CHECK_FAIL, or NOTHING_STAGED, and changes nothing except STG_FAIL. DISCARD (0x13) empties the bank
and drops the pending set (R241, R242, R257). -/
def Obligations.CheckAndDiscardAct : Prop :=
  (∀ r s, Fresh 0x11 r s → s.safe →
    Completes (.check r) s fun t =>
      (if r.payload ≠ [] then Answered 0x11 r t 0x04 [] ∧ regsBut [] s t
       else if s.stg.bank = [] then Answered 0x11 r t 0x06 [] ∧ regsBut [] s t
       else Answered 0x11 r t (if failMask s = 0 then 0x00 else 0x07) (leBytes 4 (failMask s)) ∧
         t.stored Reg.stgFail = BitVec.ofNat 32 (failMask s) ∧ regsBut [Reg.stgFail] s t) ∧
      onlyPorts s t ∧ sameMem s t) ∧
  (∀ r s, Fresh 0x13 r s →
    Completes (.discard r) s fun t =>
      (if r.payload ≠ [] then Answered 0x13 r t 0x04 [] ∧ t.stg = s.stg
       else if s.stg.bank = [] ∧ s.stg.pend = none then Answered 0x13 r t 0x06 [] ∧ t.stg = s.stg
       else Answered 0x13 r t 0x00 [] ∧ t.stg = { s.stg with bank := [], pend := none }) ∧
      onlyPorts { s with units := { s.units with stg := t.stg } } t ∧ regsBut (replyRegs r) s t ∧ sameMem s t)

/-- Checks of Table 6-1 that concern one or two registers: bit n of FAIL is set exactly when the check's own words say so (R241). That REFLEX_LOCK
judges a comparator whatever its EN is the model's choice (log entry 103), and so is that RANGE fails too on the values that PIN_CONFLICT judges
(log entry 40). -/
def Obligations.ChecksJudgeProspectiveValues : Prop :=
  ∀ s : State,
    let p := s.prospective
    ((failMask s).testBit 8 = true ↔ shadowOf s.stg.bank Reg.stgUnlock ≠ some 0x5EED ∧ ∃ n < 4,
      bit (s.starting (Reg.cmp0Ctrl + 4 * n)) 30 = true ∧ (bit (p (Reg.cmp0Ctrl + 4 * n)) 30 = false ∨
        (bit (s.starting (Reg.cmp0Ctrl + 4 * n)) 29 = true ∧ bit (p (Reg.cmp0Ctrl + 4 * n)) 29 = false))) ∧
    ((failMask s).testBit 3 = true ↔ ∃ im, s.eng.image = some im ∧ bits (p Reg.tickPeriod) 19 0 < im.pMin) ∧
    ((failMask s).testBit 0 = true ↔ (∃ n < 8, 8 ≤ bits (p (Reg.pmGpioCfg0 + 4 * n)) 3 0 ∨ bits (p (Reg.pmGpioCfg0 + 4 * n)) 9 8 = 3) ∨
      ∃ n < 8, ∃ m < n, 2 ≤ bits (p (Reg.pmGpioCfg0 + 4 * n)) 3 0 ∧
        bits (p (Reg.pmGpioCfg0 + 4 * m)) 3 0 = bits (p (Reg.pmGpioCfg0 + 4 * n)) 3 0) ∧
    ((∃ n < 8, 8 ≤ bits (p (Reg.pmGpioCfg0 + 4 * n)) 3 0 ∨ bits (p (Reg.pmGpioCfg0 + 4 * n)) 9 8 = 3) → (failMask s).testBit 21 = true) ∧
    ((failMask s).testBit 12 = true ↔ bit (p Reg.adcCross) 31 = true ∧
      (15 < bits (p Reg.adcCross) 20 16 ∨ bits (p Reg.adcCross) 11 0 = 0)) ∧
    ((failMask s).testBit 14 = true ↔ bit (p Reg.imgCtrl) 0 = true ∧ s.fuse.isV64 = true ∧
      bits (p Reg.tickPeriod) 19 0 < if bit (p Reg.imgCtrl) 1 = true then 4167 else 8334) ∧
    ((failMask s).testBit 15 = true ↔ bits (p Reg.thLimits) 23 16 ≤ bits (p Reg.thLimits) 7 0) ∧
    ((failMask s).testBit 18 = true ↔ bit (p Reg.rlLock) 8 = true ∧
      ¬(1 ≤ bits (p Reg.rlLock) 5 0 ∧ bits (p Reg.rlLock) 5 0 ≤ 32)) ∧
    ((failMask s).testBit 20 = true ↔ ∃ n < 4, bit (p (Reg.cmp0Ctrl + 4 * n)) 31 = true ∧
      bit (p (Reg.cmp0Ctrl + 4 * n)) 26 = true ∧ bits (p (Reg.cmp0Ctrl + 4 * n)) 15 8 = 0) ∧
    failMask s < 2 ^ 22

/-- COMMIT (0x12): BUSY, BAD_PARAM and NOTHING_STAGED in their order, CHECK_FAIL with FAIL, or OK with TICK. While a tick runs the bank
becomes the pending set for the next edge; while none runs every touched register takes its shadow at once, every other staged field keeps
its value, and COMMITTED and STG_LAST_TICK tell of it (R74, R239, R244 to R246, R248, R253). COMMIT_AT (0x16): DENIED while no tick runs,
BUSY, BAD_PARAM for a tick that is not 1 to 0x7FFFFFFF ahead, NOTHING_STAGED, CHECK_FAIL, or OK with the named tick and a pending set for
its edge (R244, R245, R247, R248). -/
def Obligations.CommitsFreezeOrAct : Prop :=
  (∀ r s, Fresh 0x12 r s → s.safe → banksOrdered s →
     Completes (.commit r) s fun t =>
       if s.stg.pend ≠ none then Answered 0x12 r t 0x01 [] ∧ t.stg = s.stg ∧ regsBut [] s t
       else if r.payload ≠ [] then Answered 0x12 r t 0x04 [] ∧ t.stg = s.stg ∧ regsBut [] s t
       else if s.stg.bank = [] then Answered 0x12 r t 0x06 [] ∧ t.stg = s.stg ∧ regsBut [] s t
       else if failMask s ≠ 0 then
         Answered 0x12 r t 0x07 (leBytes 4 (failMask s)) ∧ t.stg = s.stg ∧ t.stored Reg.stgFail = BitVec.ofNat 32 (failMask s) ∧
           regsBut [Reg.stgFail] s t
       else if s.tick.running = true ∨ s.tick.pass = true then
         Answered 0x12 r t 0x00 (wordBytes (s.tick.num + 1)) ∧
           t.stg = { s.stg with bank := [], pend := some { regs := s.stg.bank, tick := s.tick.num + 1, byAt := false } } ∧
           t.stored Reg.stgFail = 0 ∧ regsBut [Reg.stgFail] s t
       else
         Answered 0x12 r t 0x00 (wordBytes s.tick.num) ∧ t.stg.bank = [] ∧ t.stg.pend = none ∧ t.stored Reg.stgFail = 0 ∧
           t.stored Reg.stgLastTick = s.tick.num ∧ t.flag Reg.nvmFlags 3 = true ∧
           ∀ a, a ≠ Reg.stgUnlock → t.stored a &&& stagedMask a =
             (if (shadowOf s.stg.bank a).isSome then s.prospective a else s.stored a) &&& stagedMask a) ∧
  (∀ r s, Fresh 0x16 r s → s.safe →
     let tick := BitVec.ofNat 32 (field r.payload 0 4)
     let ahead := (tick - s.tick.num).toNat
     Completes (.commitAt r) s fun t =>
       (if s.tick.running = false then Answered 0x16 r t 0x09 [] ∧ t.stg = s.stg ∧ regsBut (replyRegs r) s t
        else if s.stg.pend ≠ none then Answered 0x16 r t 0x01 [] ∧ t.stg = s.stg ∧ regsBut (replyRegs r) s t
        else if r.payload.length ≠ 4 ∨ ahead = 0 ∨ 0x7FFFFFFF < ahead then
          Answered 0x16 r t 0x04 [] ∧ t.stg = s.stg ∧ regsBut (replyRegs r) s t
        else if s.stg.bank = [] then Answered 0x16 r t 0x06 [] ∧ t.stg = s.stg ∧ regsBut (replyRegs r) s t
        else if failMask s ≠ 0 then
          Answered 0x16 r t 0x07 (leBytes 4 (failMask s)) ∧ t.stg = s.stg ∧ t.stored Reg.stgFail = BitVec.ofNat 32 (failMask s) ∧
            regsBut (Reg.stgFail :: replyRegs r) s t
        else
          Answered 0x16 r t 0x00 (wordBytes tick) ∧
            t.stg = { s.stg with bank := [], pend := some { regs := s.stg.bank, tick := tick, byAt := true } } ∧
            t.stored Reg.stgFail = 0 ∧ regsBut (Reg.stgFail :: replyRegs r) s t) ∧
       onlyPorts { s with units := { s.units with stg := t.stg } } t ∧ sameMem s t)

/-- STORE (0x14) takes its snapshot, chooses the invalid or the older copy, sets its MAGIC to 0 and replies later; a second one gets BUSY.
At STORE_COMPLETE the copy reads back whole and valid with the next SEQ and the request is answered, or NVM_FAIL and STORE_FAIL tell of the
failure; the other copy is never written (R262, R264 to R266, R268). That copy A is taken of two invalid ones, and that the bytes behind the last
entry stay, is the model's choice (log entries 105 and 118). -/
def Obligations.StoreWritesOneCopy : Prop :=
  (∀ r s, Fresh 0x14 r s → s.safe →
    let b := s.copyValid Mram.copyA && (!s.copyValid Mram.copyB || decide (s.newestCopy = some Mram.copyA))
    let base := if b then Mram.copyB else Mram.copyA
    Completes (.store r) s fun t =>
      (if s.stg.job ≠ none then Answered 0x14 r t 0x01 [] ∧ t.stg = s.stg ∧ sameMem s t
       else if r.payload ≠ [] then Answered 0x14 r t 0x04 [] ∧ t.stg = s.stg ∧ sameMem s t
       else (∃ j, t.stg = { s.stg with job := some j } ∧ j.req = r ∧ j.toB = b ∧
           j.seq = (match s.newestCopy with | none => 1 | some c => s.copySeq c + 1) ∧
           j.entries = (stagedAddrs.filter fun a => a ≠ Reg.stgUnlock).map fun a => (a, s.stored a &&& stagedMask a)) ∧
         t.rd32 base = 0 ∧ ∀ a, a < base ∨ base + 4 ≤ a → t.rd8 a = s.rd8 a) ∧
      regsBut [] s t ∧ onlyPorts { s with units := { s.units with stg := t.stg } } t) ∧
  (∀ j s, s.safe → s.stg.job = some j → j.entries.length ≤ 8190 → (∃ e ∈ s.hp.window j.req.path, e.tag = j.req.tag) →
    let base := if j.toB then Mram.copyB else Mram.copyA
    Completes (.storeComplete true) s fun t =>
      Answered 0x14 j.req t 0x00 (wordBytes j.seq) ∧ t.stg = { s.stg with job := none } ∧
      t.rd32 base = 0x54534B53 ∧ t.copySeq base = j.seq ∧ t.copyCount base = j.entries.length ∧
      t.rd32 (base + 12) = crc32 (t.rdBytes base 12 ++ t.rdBytes (base + 16) (8 * j.entries.length)) ∧
      (∀ i, (h : i < j.entries.length) → t.rd32 (base + 16 + 8 * i) = BitVec.ofNat 32 j.entries[i].1 ∧
        t.rd32 (base + 20 + 8 * i) = j.entries[i].2) ∧
      (∀ a, a < base ∨ base + 16 + 8 * j.entries.length ≤ a → t.rd8 a = s.rd8 a) ∧
      (j.req.bcast = false → regsBut [Reg.nvmStoreCnt] s t) ∧ onlyPorts { s with units := { s.units with stg := t.stg } } t) ∧
  (∀ j s, s.safe → s.stg.job = some j → (∃ e ∈ s.hp.window j.req.path, e.tag = j.req.tag) → s.romOnly = false →
    let base := if j.toB then Mram.copyB else Mram.copyA
    Completes (.storeComplete false) s fun t =>
      Answered 0x14 j.req t 0x08 [] ∧ t.stg = { s.stg with job := none } ∧ t.flag Reg.nvmFlags 0 = true ∧ t.rd32 base = s.rd32 base ∧
      (∀ a, a < base ∨ base + 16 + 8 * j.entries.length ≤ a → t.rd8 a = s.rd8 a) ∧
      (∃ c ∈ t.flt.conds, c.code = 0x0502 ∧ c.sev = 2) ∧ (j.req.bcast = false → regsBut [Reg.nvmFlags, Reg.nvmCnt0] s t) ∧
      onlyPorts { s with units := { s.units with stg := t.stg, flt := t.flt } } t) ∧
  (∀ v s, s.stg.job = none → exec (.storeComplete v) s = .next s)

/-- RECALL (0x15) replaces the bank by the newest valid copy, counts what it skips, and answers that copy's SEQ; without a valid copy it
answers NVM_FAIL and has no effect (R238, R269, R270). -/
def Obligations.RecallLoadsBank : Prop :=
  ∀ r s, Fresh 0x15 r s → s.safe →
    let staged := fun e : Nat × Word => stagedMask e.1 ≠ 0 ∧ e.1 ≠ Reg.stgUnlock
    Completes (.recall r) s fun t =>
      (r.payload ≠ [] → Answered 0x15 r t 0x04 [] ∧ t.stg = s.stg ∧ regsBut [] s t) ∧
      (r.payload = [] → s.newestCopy = none → Answered 0x15 r t 0x08 [] ∧ t.stg = s.stg ∧ regsBut [] s t) ∧
      (r.payload = [] → ∀ c, s.newestCopy = some c →
        let skipped := (s.copyEntries c).filter fun e => decide (stagedMask e.1 = 0 ∨ e.1 = Reg.stgUnlock)
        Answered 0x15 r t 0x00 (wordBytes (s.copySeq c)) ∧ t.stg.pend = s.stg.pend ∧ t.stg.job = s.stg.job ∧
        (∀ a, ((shadowOf t.stg.bank a).isSome = true ↔ ∃ e ∈ s.copyEntries c, e.1 = a ∧ staged e)) ∧
        (∀ l e m, s.copyEntries c = l ++ e :: m → staged e → (∀ x ∈ m, x.1 ≠ e.1) →
          t.prospective e.1 &&& stagedMask e.1 = e.2 &&& stagedMask e.1) ∧
        t.fld Reg.nvmCnt0 31 16 = min (s.fld Reg.nvmCnt0 31 16 + skipped.length) 65535 ∧
        (skipped ≠ [] → t.flag Reg.nvmFlags 1 = true) ∧ regsBut (if skipped = [] then [] else [Reg.nvmFlags, Reg.nvmCnt0]) s t) ∧
      sameMem s t ∧ onlyPorts { s with units := { s.units with stg := t.stg } } t

/-- LOAD_IMAGE (0x18): DENIED, BAD_PARAM with the entry at fault, or CHECK_FAIL leave the image that was loaded; one that passes every step
of Table 8-11 replaces it and fills IMG_ID to IMG_PMIN and the estimates (R343 to R346, R287, R293). A LEN that is not 8 answers with the
payload of that BAD_PARAM, ENTRY 0xFFFF: log entry 101. -/
def Obligations.LoadImageReplacesOrKeeps : Prop :=
  ∀ r s, Fresh 0x18 r s → s.safe →
    let addr := field r.payload 0 4
    let size := field r.payload 4 4
    let denied := s.pwr.level ≠ .run ∨ s.tick.sched = true ∨ s.link.lockBad = true
    let same := fun t : State => t.eng = s.eng ∧ t.en = s.en ∧ t.res = s.res
    Completes (.loadImage r) s fun t =>
      (denied → Answered 0x18 r t 0x09 [] ∧ same t ∧ regsBut [] s t) ∧
      (¬denied → r.payload.length ≠ 8 → Answered 0x18 r t 0x04 [0xFF, 0xFF, 0, 0] ∧ same t ∧ regsBut [] s t) ∧
      (¬denied → r.payload.length = 8 →
        s.rd32 addr ≠ 0x4D494B53 ∨ addr % 16 ≠ 0 ∨ size % 16 ≠ 0 ∨ size < 64 ∨ (s.rd32 (addr + 12)).toNat ≠ size ∨
          s.rd32 (addr + 16) ≠ crc32 (s.rdBytes (addr + 20) (size - 20)) →
        Answered 0x18 r t 0x04 [0xFF, 0xFF, 0, 0] ∧ same t ∧ regsBut [] s t) ∧
      (¬denied → r.payload.length = 8 → ∀ st pl, loadFailure s addr size = some (st, pl) →
        Answered 0x18 r t st pl ∧ same t ∧ (st = 0x04 ∨ st = 0x09 ∨ st = 0x07) ∧
          regsBut (if st = 0x07 then [Reg.stgFail] else []) s t) ∧
      (¬denied → r.payload.length = 8 → loadFailure s addr size = none →
        Answered 0x18 r t 0x00 (s.rdBytes (addr + 20) 4 ++ s.rdBytes (addr + 24) 2 ++ [0, 0] ++ s.rdBytes (addr + 8) 4) ∧
        (∃ im, t.eng = { s.eng with image := some im } ∧ im.addr = addr ∧ im.size = size ∧ im.pMin = (s.rd32 (addr + 20)).toNat ∧
          im.ng = (s.rd8 (addr + 25)).toNat ∧ im.slots.length = s.rd16 (addr + 26)) ∧
        t.en = { s.en with pinValid := false } ∧ t.stored Reg.stgFail = 0 ∧ t.stored Reg.imgId = s.rd32 (addr + 8) ∧
        t.stored Reg.imgAddr = BitVec.ofNat 32 addr ∧ t.stored Reg.imgSize = BitVec.ofNat 32 size ∧
        t.fld Reg.imgInfo 22 16 = (s.rd8 (addr + 24)).toNat ∧ t.fld Reg.imgInfo 9 0 = s.rd16 (addr + 26) ∧
        t.stored Reg.imgPmin = s.rd32 (addr + 20) ∧ (∀ g < 4, t.stored (Reg.enEst0 + 4 * g) = s.rd32 (addr + 32 + 4 * g)) ∧
        regsBut [Reg.stgFail, Reg.imgId, Reg.imgAddr, Reg.imgSize, Reg.imgInfo, Reg.imgPmin, Reg.enEst0, Reg.enEst0 + 4, Reg.enEst0 + 8,
          Reg.enEst0 + 12, Reg.stgMapHash, Reg.resFlags, Reg.resCnt1] s t) ∧
      onlyPorts { s with units := { s.units with eng := t.eng, en := t.en, res := t.res } } t ∧ sameMem s t

/-- START (0x19) names the edge at which the schedule begins; in FREE_RUN the number 0 begins it at once, with a pass. It is DENIED outside
RUN, while a schedule runs and without an image (R75, R220, R347). STOP (0x1A) stops the schedule: no further entry starts, and running work
goes on; while the schedule does not run it changes nothing (R76, R347). That the number 0 begins a FREE_RUN schedule at once, and that HELD ends then, is the
model's choice (log entries 47 and 24). -/
def Obligations.StartAndStopRuleTheSchedule : Prop :=
  (∀ r s, Fresh 0x19 r s →
     let n := field r.payload 0 4
     let denied := s.pwr.level ≠ .run ∨ s.tick.sched = true ∨ s.eng.image = none
     let atOnce := s.freeRun = true ∧ s.tick.pass = false ∧ n = 0
     Completes (.start r) s fun t =>
       (denied → Answered 0x19 r t 0x09 [] ∧ t.tick = s.tick) ∧
       (¬denied → r.payload.length ≠ 4 → Answered 0x19 r t 0x04 [] ∧ t.tick = s.tick) ∧
       (¬denied → r.payload.length = 4 → ¬atOnce →
         Answered 0x19 r t 0x00 [] ∧ t.tick = { s.tick with startAt := some (BitVec.ofNat 32 n) }) ∧
       (¬denied → r.payload.length = 4 → atOnce →
         Answered 0x19 r t 0x00 [] ∧ t.tick.sched = true ∧ t.tick.startAt = none ∧ t.tick.pass = true ∧ t.tick.passAt = s.now ∧
           t.tick.held = false ∧ t.tick.num = s.tick.num ∧ t.res.since = false ∧ t.stg = s.stg ∧ t.rfx = s.rfx) ∧
       (denied ∨ r.payload.length ≠ 4 ∨ ¬atOnce →
         onlyPorts { s with units := { s.units with tick := t.tick } } t ∧ regsBut (replyRegs r) s t) ∧
       sameMem s t) ∧
  (∀ r s, Fresh 0x1A r s →
     Completes (.stop r) s fun t =>
       (if r.payload ≠ [] then Answered 0x1A r t 0x04 [] ∧ t.tick = s.tick
        else Answered 0x1A r t 0x00 [] ∧
          t.tick = if s.tick.sched = true then { s.tick with sched := false, startAt := none, wholeTick := false, stopping := true } else s.tick) ∧
       onlyPorts { s with units := { s.units with tick := t.tick } } t ∧ regsBut (replyRegs r) s t ∧ sameMem s t)

/-- SELECT_GRADE (0x1B) pins a grade below NG, or releases the pin with 0xFF; a grade of NG or more is BAD_PARAM, and one without an image
is DENIED (R292). SET_LEVEL (0x1C): BUSY while a change is pending, DENIED for a level that is not allowed or a held one, else OK. A higher
level powers up first; another waits for the next edge while a tick runs and is taken at once while none does, with all that leaving the old level and entering
the new one brings (R119, R120, R122, R305). That the level at which the node stands is no change is the model's choice (log entry 82). -/
def Obligations.GradesAndLevelsAreAsked : Prop :=
  (∀ r s, Fresh 0x1B r s →
     let g := field r.payload 0 1
     let good := r.payload.length = 4 ∧ field r.payload 1 3 = 0
     Completes (.selectGrade r) s fun t =>
       (good → g ≤ 3 → s.eng.image = none → Answered 0x1B r t 0x09 [] ∧ t.en = s.en) ∧
       (good → g ≤ 3 → ∀ im, s.eng.image = some im →
         if g < im.ng then Answered 0x1B r t 0x00 [] ∧ t.en = { s.en with pin := g, pinValid := true }
         else Answered 0x1B r t 0x04 [] ∧ t.en = s.en) ∧
       (good → g = 0xFF → Answered 0x1B r t 0x00 [] ∧ t.en = { s.en with pinValid := false }) ∧
       (good → 3 < g → g < 0xFF → (∀ im, s.eng.image = some im → im.ng ≤ 4) → Answered 0x1B r t 0x04 [] ∧ t.en = s.en) ∧
       (¬good → (Answered 0x1B r t 0x04 [] ∨ Answered 0x1B r t 0x09 []) ∧ t.en = s.en) ∧
       onlyPorts { s with units := { s.units with en := t.en } } t ∧ regsBut (replyRegs r) s t ∧ sameMem s t) ∧
  (∀ r s, Fresh 0x1C r s →
     let code := field r.payload 0 1
     let ticks := s.tick.running = true ∨ s.tick.pass = true
     let good := r.payload.length = 4 ∧ field r.payload 1 3 = 0
     Completes (.setLevel r) s fun t =>
       (s.pwr.pend ≠ none → Answered 0x1C r t 0x01 [] ∧ t.pwr = s.pwr) ∧
       (s.pwr.pend = none → good → 2 < code → Answered 0x1C r t 0x04 [] ∧ t.pwr = s.pwr) ∧
       (s.pwr.pend = none → good → ∀ l, levelCode l = code →
         (s.allows l = false ∨ (s.en.hold = true ∧ l ≠ .keep) → Answered 0x1C r t 0x09 [] ∧ t.pwr = s.pwr) ∧
         (s.allows l = true → (s.en.hold = true → l = .keep) →
           Answered 0x1C r t 0x00 [] ∧
           t.pwr = (if levelCode s.pwr.level < code then { s.pwr with pend := some l, pendReady := false }
             else if s.pwr.level = l then s.pwr
             else if ticks then { s.pwr with pend := some l, pendReady := true }
             else { s.pwr with level := l, pend := none, pendReady := false }) ∧
           (levelCode l < levelCode s.pwr.level → ¬ticks →
             Entered l s t ∧ t.tick.metered = false ∧ t.en.maxCount = 0 ∧ t.stg = s.stg ∧ t.tick.num = s.tick.num ∧
               (l ≠ .keep → t.rfx = s.rfx)))) ∧
       (s.pwr.pend = none → ¬good → (Answered 0x1C r t 0x04 [] ∨ Answered 0x1C r t 0x09 []) ∧ t.pwr = s.pwr) ∧
       (s.pwr.pend ≠ none ∨ ¬good ∨ levelCode s.pwr.level ≤ code ∨ ticks →
         onlyPorts { s with units := { s.units with pwr := t.pwr } } t ∧ regsBut (replyRegs r) s t ∧ sameMem s t))

/-- LEVEL_POWER_UP_COMPLETE changes the level now when no tick runs, and makes the change due at the next edge while one does; it ends the power-up of
a higher level alone, since only such a change is pending without being due (R119). A TICK_EDGE brings a change that is due, and an edge or a thermal
interval whose TH_AVG reaches T_CRIT brings KEEP (R304). Leaving RUN unloads the image and stops the schedule and all work; leaving WATCH ends its
frames; KEEP has no imager, no conversions and no reference; above KEEP the imager starts anew (R122, R348, R556, R583, R591, R623, R654). -/
def Obligations.LevelChangeTakesEffect : Prop :=
  (∀ s, s.pwr.pend = none ∨ s.pwr.pendReady = true → exec .levelPowerUpComplete s = .next s) ∧
  (∀ s l, s.pwr.pend = some l → s.pwr.pendReady = false → s.tick.running = true ∨ s.tick.pass = true →
    exec .levelPowerUpComplete s = .next { s with units := { s.units with pwr := { s.pwr with pendReady := true } } }) ∧
  (∀ s l, s.safe → PendsUpward s → s.pwr.pend = some l → s.pwr.pendReady = false → s.tick.running = false → s.tick.pass = false →
    Completes .levelPowerUpComplete s fun t =>
      t.pwr = { s.pwr with level := l, pend := none, pendReady := false } ∧ Entered l s t ∧ t.tick.metered = false ∧ t.en.maxCount = 0 ∧
      t.stg = s.stg ∧ t.hp = s.hp ∧ t.link = s.link ∧ t.rfx = s.rfx ∧ t.res = s.res ∧ t.tick.num = s.tick.num) ∧
  (∀ s t, PendsUpward s → step s = .next t → PendsUpward t) ∧
  (∀ sp s l, s.safe → s.dueEdge ≠ none → s.pwr.pend = some l → s.pwr.pendReady = true →
    Completes (.tickEdge sp) s fun t => ∃ x, (x = l ∨ (x = .keep ∧ AtCrit t)) ∧ Entered x s t) ∧
  (∀ sp s, s.safe → s.dueEdge ≠ none → s.tick.edges = true → s.tick.metered = true →
    Completes (.tickEdge sp) s fun t => AtCrit t → Entered .keep s t) ∧
  (∀ s, s.safe → s.pwr.level ≠ .keep → s.tick.edges = false → Completes .thermalIntervalEnd s fun t => AtCrit t → Entered .keep s t)

/-- ADC_CAL (0x20) checks its request and begins to sample; one whose converter is not ready ends a held zero step too, without a ready reference it is
rejected with REASON 1, and one that comes while a step of its converter runs waits, and with it all that come after it (R32, R649, R654; log entry
102). ADC_CAL_STEP_COMPLETE judges the conversions of the named channel: a step that lost its reference or fails a check is rejected and stages
nothing, a zero step is held, and a full-scale step stages the coefficients and CAL_EN (R649 to R652). The requests that waited then follow in their
order. -/
def Obligations.CalibrationStepsAreJudged : Prop :=
  (∀ r s, Fresh 0x20 r s → s.safe →
    let c : Conv := if field r.payload 0 1 = 0 then .a else .b
    let full := field r.payload 1 1 = 1
    let ch := field r.payload 2 1
    let target := field r.payload 4 2
    let good := r.payload.length = 8 ∧ field r.payload 0 1 ≤ 1 ∧ field r.payload 1 1 ≤ 1 ∧ field r.payload 3 1 = 0 ∧
      field r.payload 6 2 = 0 ∧ ch ≤ 22 ∧ (ch < 16 → s.flag Reg.pmAinMode ch = true) ∧ (¬full → target = 0) ∧
      (full → 1 ≤ target ∧ target ≤ 4095)
    let ready := s.convOk c = true ∧ s.flag (regCtrl c) 31 = false ∧ s.flag (injCtrl c) 31 = false ∧ s.flag Reg.adcCross 31 = false ∧
      (full → ∃ m, (s.conv c).zero = some (ch, m))
    let runs := (s.conv c).cal ≠ none
    Completes (.adcCal r) s fun t =>
      (runs → t.adc = s.adc ∧ t.hp.parked = [(0x20, r)] ∧
        (∃ e ∈ t.hp.window r.path, e.tag = r.tag ∧ e.reply = none) ∧ regsBut [] s t) ∧
      (¬runs → s.pwr.level = .keep → Answered 0x20 r t 0x09 [] ∧ t.adc = s.adc ∧ regsBut [] s t) ∧
      (¬runs → s.pwr.level ≠ .keep → ¬good → Answered 0x20 r t 0x04 [] ∧ t.adc = s.adc ∧ regsBut [] s t) ∧
      (¬runs → s.pwr.level ≠ .keep → good → ¬ready →
        Answered 0x20 r t 0x09 [] ∧ t.adc = (s.withConv c { s.conv c with zero := none }).adc ∧ regsBut [] s t) ∧
      (¬runs → s.pwr.level ≠ .keep → good → ready → s.adc.refReady = false →
        Answered 0x20 r t 0x0C (List.replicate 12 0) ∧ t.fld Reg.adcCalStat 3 0 = 1 ∧ t.flag Reg.adcCflags 1 = true ∧
          (t.conv c).zero = none ∧ t.conv (otherConv c) = s.conv (otherConv c) ∧
          regsBut [Reg.adcCalStat, Reg.adcCflags, Reg.adcCcnt] s t) ∧
      (¬runs → s.pwr.level ≠ .keep → good → ready → s.adc.refReady = true →
        (∃ j, (t.conv c).cal = some j ∧ j.req = r ∧ (j.full = true ↔ full) ∧ j.ch = ch ∧ j.target = target) ∧
          (∃ e ∈ t.hp.window r.path, e.tag = r.tag ∧ e.reply = none) ∧ t.conv (otherConv c) = s.conv (otherConv c) ∧
          regsBut [] s t) ∧
      onlyPorts { s with units := { s.units with adc := t.adc } } t ∧ sameMem s t) ∧
  (∀ c samples s j lo hi off, s.safe → (s.conv c).cal = some j → s.hp.parked = [] → j.req.bcast = false →
    (∃ e ∈ s.hp.window j.req.path, e.tag = j.req.tag) →
    let gone := j.lost = true ∨ s.adc.refReady = false
    let l := calCodes s c j samples
    (¬gone → l.length = 64 ∧ ∀ i < 64, l[i]? =
      some (convert s (s.now + i) c j.ch 3 false (samples.getD i (samples.getLastD ⟨0, 0⟩)))) ∧
    ((l ≠ [] → lo ∈ l ∧ hi ∈ l) → (l = [] → lo = 0 ∧ hi = 0) → (∀ x ∈ l, lo ≤ x ∧ x ≤ hi) → off = (match (s.conv c).zero with | some z => z.2 | none => 0) →
    let mean := (2 * l.sum + l.length) / (2 * l.length)
    let gain := (2 * (16384 * j.target) + (mean - off)) / (2 * (mean - off))
    let w2 := fun n => leBytes 2 n
    let zeroed := Reg.adcACal + (match c with | .a => 0 | .b => 4)
    Completes (.adcCalStepComplete c samples false) s fun t =>
      let rejected := fun n => Answered 0x20 j.req t 0x0C (w2 mean ++ w2 lo ++ w2 hi ++ [0, 0, 0, 0, 0, 0]) ∧
        t.fld Reg.adcCalStat 3 0 = n ∧ t.flag Reg.adcCflags 1 = true ∧ (t.conv c).zero = none ∧ t.stg = s.stg ∧
        regsBut [Reg.adcCalStat, Reg.adcCflags, Reg.adcCcnt] s t
      (if gone then rejected 1
       else if 16 < hi - lo then rejected 3
       else if j.full = false then
         (if 64 < mean then rejected 2
          else Answered 0x20 j.req t 0x00 (w2 mean ++ w2 lo ++ w2 hi ++ [0, 0, 0, 0, 0, 0]) ∧ (t.conv c).zero = some (j.ch, mean) ∧
            t.stg = s.stg ∧ regsBut [] s t)
       else if mean ≤ off then rejected 4
       else if gain < 0x399A ∨ 0x4666 < gain then rejected 5
       else Answered 0x20 j.req t 0x00 (w2 mean ++ w2 lo ++ w2 hi ++ w2 off ++ w2 gain ++ [0, 0]) ∧ (t.conv c).zero = none ∧
         t.prospective zeroed = BitVec.ofNat 32 (off % 65536 * 65536 + gain) ∧
         bit (t.prospective Reg.adcCalEn) (match c with | .a => 0 | .b => 1) = true ∧ t.stg.pend = s.stg.pend ∧ regsBut [] s t) ∧
      (t.conv c).cal = none ∧ onlyPorts { s with units := { s.units with adc := t.adc, stg := t.stg } } t ∧ sameMem s t)) ∧
  (∀ c samples s u, (s.conv c).cal ≠ none → exec .refLoss s = .next u →
    exec (.adcCalStepComplete c samples true) s = exec (.adcCalStepComplete c samples false) u) ∧
  (∀ c samples s, (s.conv c).cal ≠ none →
    ∃ u, exec (.adcCalStepComplete c samples false) { s with units := { s.units with hp := { s.hp with parked := [] } } } = .next u ∧
      exec (.adcCalStepComplete c samples false) s =
        .next (s.hp.parked.foldl (fun t x => (answer t x.1 (opOf x.1) x.2).run t) u)) ∧
  (∀ c samples lost s, (s.conv c).cal = none → exec (.adcCalStepComplete c samples lost) s = .next s)

/-- ADC_SNAPSHOT (0x21) returns both data words as reads of them do, clearing VALID, and returns entries of the closed page, 0 beyond its
COUNT (R12, R622). RESULT_RD (0x30) returns TICK and PAGE_STAT of the newest page and bytes of it; it is DENIED before a page has completed since START
and for memory that is not powered. Both are BAD_ADDR where the bytes that they name leave the ranges of Table 0-4 (R16, R220, R537, R742). -/
def Obligations.SnapshotAndResultReadsAnswer : Prop :=
  let within' := fun a n : Nat => decide (n = 0 ∨ (regionOf a ≠ none ∧ regionOf (a + n - 1) ≠ none))
  (∀ r s, Fresh 0x21 r s → s.safe →
     let start := field r.payload 0 2
     let count := field r.payload 2 2
     let entry := fun i => if i < s.fld Reg.mvClosedStat 10 0 then s.rdBytes ((s.stored Reg.mvBase).toNat + 4096 + 4 * i) 4 else [0, 0, 0, 0]
     Completes (.adcSnapshot r) s fun t =>
       (if s.pwr.level = .keep then Answered 0x21 r t 0x09 [] ∧ regsBut [] s t
        else if r.payload.length ≠ 4 ∨ 1022 < count ∨ 1024 < start + count then Answered 0x21 r t 0x04 [] ∧ regsBut [] s t
        else if within' ((s.stored Reg.mvBase).toNat + 4096 + 4 * start) (4 * count) = false then Answered 0x21 r t 0x05 [] ∧ regsBut [] s t
        else Answered 0x21 r t 0x00 (wordBytes (s.readReg Reg.adcAData) ++ wordBytes (s.readReg Reg.adcBData) ++
            (List.range count).flatMap fun i => entry (start + i)) ∧
          (∀ a ∈ [Reg.adcAData, Reg.adcBData], t.stored a = (s.stored a &&& ~~~(0x80000000 : Word)) ||| (s.recent a &&& 0x80000000)) ∧
          regsBut (if s.cycle.ovr = [] then [Reg.adcAData, Reg.adcBData] else [Reg.adcAData, Reg.adcBData, Reg.adcFlags, Reg.adcCnt0]) s t) ∧
       onlyPorts s t ∧ sameMem s t) ∧
  (∀ r s, Fresh 0x30 r s →
     let off := field r.payload 0 4
     let count := field r.payload 4 2
     let page := (s.stored (if s.res.newest = true then Reg.resPage1 else Reg.resPage0)).toNat
     Completes (.resultRd r) s fun t =>
       (if s.res.since = false then Answered 0x30 r t 0x09 []
        else if r.payload.length ≠ 8 ∨ field r.payload 6 2 ≠ 0 ∨ 4088 < count ∨ s.fld Reg.resLen 15 0 < off + count then Answered 0x30 r t 0x04 []
        else if within' page 8 = false ∨ within' (page + off) count = false then Answered 0x30 r t 0x05 []
        else if s.poweredAll page 8 = false ∨ s.poweredAll (page + off) count = false then Answered 0x30 r t 0x09 []
        else Answered 0x30 r t 0x00 (s.rdBytes page 8 ++ s.rdBytes (page + off) count)) ∧
       onlyPorts s t ∧ regsBut [] s t ∧ sameMem s t)

/-- HALT_RELEASE (0x22) clears the latches of its MASK whose comparator is untripped or disabled, FHALT and every echo hold, and returns the
latches that are still set (R639, R640, R698); a trip in the cycle of a release keeps its latch, STILL shows it and no HALT set tells of either (R641). A
comparator's raw output follows the voltage at its pin at once, tripping and clearing as
DIR, V_THR and V_HYST say within their tolerances (Table 19-10), and its filtered state changes when the filter expires. One
that trips sets TRIPn; with HALT it latches, sets LATCHED and the HALT cause, and HALT sets go out; auto-release clears the latch of an
untripped comparator (R628 to R630, R633 to R636, R642). That the raw output of a comparator that does not run is untripped is the model's
reading, log entry 22. -/
def Obligations.ReflexLatchesAndReleases : Prop :=
  (∀ r s, Fresh 0x22 r s → s.safe →
     let mask := field r.payload 0 1
     let bad := r.payload.length ≠ 4 ∨ field r.payload 1 3 ≠ 0 ∨ 15 < mask
     Completes (.haltRelease r) s fun t =>
       (bad → Answered 0x22 r t 0x04 [] ∧ t.rfx = s.rfx ∧ regsBut (replyRegs r) s t ∧ onlyPorts s t) ∧
       (¬bad →
         Answered 0x22 r t 0x00 [t.rfx.latch.setWidth 8, 0, 0, 0] ∧ t.rfx = { s.rfx with latch := t.rfx.latch, fhalt := false } ∧
         (∀ n < 4, t.rfx.latch.getLsbD n = (s.rfx.latch.getLsbD n &&
           !(mask.testBit n && (!s.rfx.filt.getLsbD n || !s.flag (Reg.cmp0Ctrl + 4 * n) 31)))) ∧
         t.stored Reg.rfxEchoSrc = 0 ∧ (t.link.hseqTx = s.link.hseqTx ↔ t.rfx = s.rfx) ∧
         regsBut (Reg.rfxEchoSrc :: replyRegs r) s t ∧ onlyPorts { s with units := { s.units with rfx := t.rfx } } t) ∧
       sameMem s t) ∧
  ((∀ (n : Fin 4) src s, Completes (.cmpRawChange n src) s fun t =>
     t.units = { s.units with pins := { s.pins with ain := s.pins.ain.set n.val src, ainBit := t.pins.ainBit }, rfx := { s.rfx with raw := t.rfx.raw } } ∧
     (∀ m < 16, s.ainDigital m = true → t.pins.ainBit.getLsbD m = t.ainLevel m) ∧
     (∀ m < 4, s.cmpRuns m = false → t.rfx.raw.getLsbD m = false) ∧
     (∀ m < 4, s.cmpRuns m = true →
       let ctrl := Reg.cmp0Ctrl + 4 * m
       let thr : Int := Int.ofNat (7000000 * s.fld ctrl 7 0)
       let hyst : Int := Int.ofNat ([0, 10000000, 20000000, 40000000].getD (s.fld ctrl 25 24) 0)
       let dThr := thr / 100 + 4000000
       let far := hyst + (hyst / 4 + 2000000) + dThr
       (s.flag ctrl 27 = true → (thr + dThr < t.ainVolt m → t.rfx.raw.getLsbD m = true) ∧
         (t.ainVolt m + far < thr → t.rfx.raw.getLsbD m = false)) ∧
       (s.flag ctrl 27 = false → (t.ainVolt m + dThr < thr → t.rfx.raw.getLsbD m = true) ∧
         (thr + far < t.ainVolt m → t.rfx.raw.getLsbD m = false))) ∧
     regsBut [] s t ∧ sameMem s t) ∧
   (∀ (n : Fin 4) s, s.cmpRuns n.val = false ∨ s.rfx.raw.getLsbD n.val = s.rfx.filt.getLsbD n.val → exec (.cmpFilterExpiry n) s = .next s) ∧
   (∀ (n : Fin 4) s, s.cmpRuns n.val = true → s.rfx.raw.getLsbD n.val = false → s.rfx.filt.getLsbD n.val = true →
     exec (.cmpFilterExpiry n) s = .next { s with units := { s.units with rfx := { s.rfx with filt := s.rfx.filt &&& ~~~(1#4 <<< n.val) } } }) ∧
   (∀ (n : Fin 4) s x, s.safe → s.cmpRuns n.val = true → s.rfx.raw.getLsbD n.val = true → s.rfx.filt.getLsbD n.val = false →
     s.cycle.release = some x → x.latch.getLsbD n.val = true → s.rfx.latch.getLsbD n.val = false →
     let still := fun (tag : Byte) (l : BitVec 4) => replyPacket s.link.addr.toNat 0x22 tag 0x00 [l.setWidth 8, 0, 0, 0]
     Completes (.cmpFilterExpiry n) s fun t =>
       t.rfx.latch = s.rfx.latch ||| (1#4 <<< n.val) ∧ t.flag Reg.rfxFlags 4 = s.flag Reg.rfxFlags 4 ∧
       (t.rfx.latch = x.latch → s.rfx.fhalt = x.fhalt → t.link.hseqTx = x.hseq) ∧
       (∀ tag l, x.replies = [(tag, l)] → t.hp.queue = s.hp.queue.map fun q =>
         if q.bytes = still tag l then { q with bytes := still tag (l ||| (1#4 <<< n.val)) } else q) ∧
       t.stg = s.stg ∧ t.pwr = s.pwr ∧ t.tick.num = s.tick.num ∧ sameMem s t) ∧
   (∀ (n : Fin 4) s, s.safe → s.cmpRuns n.val = true → s.rfx.raw.getLsbD n.val = true → s.rfx.filt.getLsbD n.val = false →
     s.cycle.release = none →
     Completes (.cmpFilterExpiry n) s fun t =>
       let halts := s.flag (Reg.cmp0Ctrl + 4 * n.val) 29 = true
       let fresh := halts ∧ s.rfx.latch.getLsbD n.val = false
       t.rfx = { s.rfx with
         filt := s.rfx.filt ||| (1#4 <<< n.val), latch := if s.flag (Reg.cmp0Ctrl + 4 * n.val) 29 = true then s.rfx.latch ||| (1#4 <<< n.val) else s.rfx.latch } ∧
       t.flag Reg.rfxFlags n.val = true ∧ (fresh → t.flag Reg.rfxFlags 4 = true ∧ t.flag Reg.hpIrqStat 3 = true ∧ t.drivesHalt = true ∧
         t.link.hseqTx = s.link.hseqTx + 1 ∧ (s.romOnly = false → ∃ c ∈ t.flt.conds, c.code = 0x0C01 ∧ c.sev = 0)) ∧
       (¬fresh → t.link.hseqTx = s.link.hseqTx) ∧
       ((∀ c, s.fld (injCtrl c) 3 0 = 0) → s.flag (Reg.cmp0Ctrl + 4 * n.val) 28 = false →
         t.adc = s.adc ∧ t.tick = s.tick ∧
           regsBut [Reg.rfxFlags, Reg.rfxCnt0, Reg.rfxCnt1, Reg.rfxCnt2, Reg.hpIrqStat, Reg.hpCnt1] s t) ∧
       t.stg = s.stg ∧ t.pwr = s.pwr ∧ t.tick.num = s.tick.num ∧ sameMem s t) ∧
   (∀ (n : Fin 4) s,
     let due := s.flag (Reg.cmp0Ctrl + 4 * n.val) 26 = true ∧ s.rfx.filt.getLsbD n.val = false ∧ s.rfx.latch.getLsbD n.val = true
     (¬due → exec (.autoRelease n) s = .next s) ∧
     (due → Completes (.autoRelease n) s fun t =>
       t.rfx = { s.rfx with latch := s.rfx.latch &&& ~~~(1#4 <<< n.val) } ∧ t.link.hseqTx = s.link.hseqTx + 1 ∧
         t.units = { s.units with rfx := t.rfx, link := t.link } ∧ regsBut [] s t ∧ sameMem s t)))

/-- FAULT_RD (0x28) returns up to COUNT held records from INDEX on, oldest first, each of 16 bytes whose sum is 0 modulo 256; FAULT_CLR
(0x29) discards held records up to INDEX, or all of them (R691, R692, Table 18-2). FAULT_RECORD merges the oldest waiting condition into the
newest record of the same CODE, SRC and TICK, or appends its record with the next SEQ and takes the actions of Table 18-3. BLACK_BOX_COPY
writes the next copy into slot NEXT with BSEQ; one that fails to read back keeps both (R687 to R690, R693, R701, R703). -/
def Obligations.FaultsAreRecordedAndRead : Prop :=
  ((∀ r s, Fresh 0x28 r s →
     let index := field r.payload 0 2
     let count := field r.payload 2 2
     let recs := (s.flt.log.filter fun x => decide (index = 0) || decide ((x.seq + 65536 - index) % 65536 < 32768)).take count
     Completes (.faultRd r) s fun t =>
       (if r.payload.length ≠ 4 ∨ count = 0 ∨ 255 < count then Answered 0x28 r t 0x04 []
        else ∃ bytes, Answered 0x28 r t 0x00 (leBytes 2 s.flt.log.length ++ leBytes 2 recs.length ++ bytes) ∧
          bytes = recs.flatMap (fun x => recordBytes x x.seq) ∧
          ∀ x ∈ recs, (recordBytes x x.seq).length = 16 ∧ ((recordBytes x x.seq).map BitVec.toNat).sum % 256 = 0) ∧
       onlyPorts s t ∧ regsBut [] s t ∧ sameMem s t) ∧
   (∀ r s, Fresh 0x29 r s →
     let index := field r.payload 0 2
     Completes (.faultClr r) s fun t =>
       (if r.payload.length ≠ 4 ∨ field r.payload 2 2 ≠ 0 then Answered 0x29 r t 0x04 [] ∧ t.flt = s.flt
        else Answered 0x29 r t 0x00 [] ∧ t.flt = { s.flt with log := t.flt.log } ∧
          t.flt.log = (if index = 0 then [] else s.flt.log.filter fun x =>
            decide (1 ≤ (x.seq + 65536 - index) % 65536) && decide ((x.seq + 65536 - index) % 65536 < 32768))) ∧
       onlyPorts { s with units := { s.units with flt := t.flt } } t ∧ regsBut [] s t ∧ sameMem s t)) ∧
  (let works := fun s : State => s.keeperUp = true ∨ s.romOnly = true
   let slot := fun s : State => 0x04220000 + 16 * s.flt.bbNext
   (∀ s, s.flt.conds = [] ∨ ¬works s → exec .faultRecord s = .next s) ∧
   (∀ s c rest, s.safe → s.flt.conds = c :: rest → works s →
     let tick := match c.tick with | some x => x | none => s.tick.num
     let same := fun x : FltRec => x.code = c.code ∧ x.src = c.src ∧ x.tick = tick
     let acts := c.code.getLsbD 15 = false ∧ s.romOnly = false
     let halts := acts ∧ 2 ≤ c.sev ∧ s.flag Reg.fltHaltEn (c.code.toNat / 256 % 16) = true
     Completes .faultRecord s fun t =>
       (∀ x, s.flt.log.getLast? = some x → same x →
         t.flt = { s.flt with conds := rest, log := s.flt.log.dropLast ++ [{ x with repeats := min (x.repeats + 1) 255 }] } ∧
           t.units = { s.units with flt := t.flt } ∧ regsBut [] s t) ∧
       ((∀ x, s.flt.log.getLast? = some x → ¬same x) →
         (∃ x, t.flt.log = (if 256 ≤ s.flt.log.length then s.flt.log.tail else s.flt.log) ++ [x] ∧ same x ∧ x.sev = c.sev ∧ x.data = c.data ∧
           x.seq = s.flt.seq ∧ x.repeats = 0 ∧ (x.halt = true ↔ halts) ∧
           t.flt.copies = (if c.code.getLsbD 15 = false ∧ s.romOnly = false ∧ s.fld Reg.fltCtrl 5 4 ≤ c.sev then s.flt.copies ++ [x] else s.flt.copies) ∧
           (acts → s.isHead = false → s.fld Reg.fltCtrl 1 0 ≤ c.sev →
             Sends .up t 9 1 (leBytes 2 1 ++ [0, 0] ++ wordBytes s.tick.num ++
               wordBytes (BitVec.ofNat 32 (s.flt.seq % 65536 * 65536 + c.code.toNat))))) ∧
         t.flt.seq = (if s.flt.seq = 65535 then 1 else s.flt.seq + 1) ∧ t.flt.conds = rest ∧ t.fld Reg.fltLast 15 0 = c.code.toNat ∧
         t.flag Reg.hpIrqStat 4 = true ∧ (256 ≤ s.flt.log.length → t.flag Reg.fltFlags 0 = true) ∧
         (halts → t.rfx = { s.rfx with fhalt := true }) ∧ (¬halts → t.rfx = s.rfx) ∧
         t.units = { s.units with flt := t.flt, link := t.link, rfx := t.rfx } ∧
         regsBut [Reg.fltFlags, Reg.fltCnt0, Reg.fltLast, Reg.fltCnt1, Reg.hpIrqStat, Reg.hpCnt1] s t) ∧ sameMem s t) ∧
   (∀ ok s, s.keeperUp = false ∨ s.stg.job ≠ none ∨ s.flt.copies = [] → exec (.blackBoxCopy ok) s = .next s) ∧
   (∀ ok s r rest, s.safe → s.keeperUp = true → s.stg.job = none → s.flt.copies = r :: rest → s.flt.bbNext < 4096 →
     let mine := s.flt.failed.getD r
     let now := match s.flt.log.find? fun x => x.seq == mine.seq && x.code == mine.code with | some x => x | none => mine
     let after := { s.flt with copies := if s.flt.failed = none then rest else s.flt.copies, failed := none }
     Completes (.blackBoxCopy ok) s fun t =>
       (ok = true →
         t.flt = { after with bbNext := (s.flt.bbNext + 1) % 4096, bbSeq := (s.flt.bbSeq + 1) % 65536 } ∧
         t.rdBytes (slot s) 16 = recordBytes now s.flt.bbSeq ∧ regsBut [] s t) ∧
       (ok = false →
         t.flt = { after with failed := if s.flt.failed = none then some r else none } ∧ t.flag Reg.fltFlags 1 = true ∧ t.free = s.free + 16 ∧
         regsBut [Reg.fltFlags, Reg.fltCnt0] s t) ∧
       (∀ a, a < slot s ∨ slot s + 16 ≤ a → t.rd8 a = s.rd8 a) ∧ t.units = { s.units with flt := t.flt }))

/-- RESET_NODE (0x3E) answers OK and asks for a reset, which its delay's expiry carries out; the watchdogs reset a node whose firmware runs.
Each reset leaves the cause in PWR_RST_CAUSE, and only the boot watchdog remembers the slot that failed to come up (R103, R104, R110). A
RESET_N pulse of 2 µs resets the node and one below 1 µs does nothing; a supply's brown-out resets it, and that of VDD_IO also clears the
strap latch (R97, R98, R99, R103, R717). Between 1 µs and 2 µs either may happen: a free value, log entry 9. MRAM keeps its contents, but
power that fails during a STORE leaves its target copy complete or with MAGIC as it was, and one that fails while a black-box copy is due
may leave slot NEXT written or invalid: free values, log entry 111 (R267, R704). That lost memory reads as 0 is the model's choice, log entry 6, and
whether a crystal makes the pulse 3 ms long is a free value of the board, log entry 30. -/
def Obligations.ResetsReset : Prop :=
  ((∀ r s, Fresh 0x3E r s →
     Completes (.resetNode r) s fun t =>
       (if r.payload ≠ [] then Answered 0x3E r t 0x04 [] ∧ t.pwr = s.pwr
        else Answered 0x3E r t 0x00 [] ∧ t.pwr = { s.pwr with resetAsked := true }) ∧
       onlyPorts { s with units := { s.units with pwr := t.pwr } } t ∧ regsBut [] s t ∧ sameMem s t) ∧
   (∀ s, s.safe → s.pwr.resetAsked = true → Completes .resetNodeDelayExpiry s fun t =>
     ResetOf 5 .rom s t ∧ sameMram s t ∧ t.pwr.triedA = false ∧ t.pwr.triedB = false) ∧
   (∀ s, s.pwr.resetAsked = false → exec .resetNodeDelayExpiry s = .next s) ∧
   (∀ s, s.safe → s.pwr.phase = .firmware ∨ s.pwr.phase = .keeper → Completes .wdt s fun t =>
     ResetOf 6 .rom s t ∧ sameMram s t ∧ t.pwr.triedA = false ∧ t.pwr.triedB = false) ∧
   (∀ s, s.pwr.phase ≠ .firmware → s.pwr.phase ≠ .keeper → exec .wdt s = .next s) ∧
   (∀ s, s.safe → s.pwr.phase = .firmware → Completes .bootWdt s fun t =>
     ResetOf 7 .rom s t ∧ sameMram s t ∧ t.pwr.triedA = (s.pwr.triedA || (!s.pwr.hostImage && !s.pwr.slotB)) ∧
       t.pwr.triedB = (s.pwr.triedB || (!s.pwr.hostImage && s.pwr.slotB))) ∧
   (∀ s, s.pwr.phase ≠ .firmware → exec .bootWdt s = .next s)) ∧
  ((∀ lowNs s, s.safe → 2000 ≤ lowNs → Completes (.resetNAssert lowNs) s fun t =>
     ResetOf 0 .inReset s t ∧ sameMram s t ∧ t.pwr.strapsKept = s.pwr.strapsKept ∧
       t.pwr.resetLow = (decide (Supply.io ∉ s.pwr.brown) && (s.pwr.strapsKept || decide ((if Config.crystal = true then 3000000 else 1000000) ≤ lowNs))) ∧
       t.pwr.brown = s.pwr.brown ∧ t.pwr.triedA = false ∧ t.pwr.triedB = false) ∧
   (∀ lowNs s, lowNs < 1000 → exec (.resetNAssert lowNs) s = .next s) ∧
   (∀ lowNs s, s.safe → 1000 ≤ lowNs → lowNs < 2000 → Completes (.resetNAssert lowNs) s fun t =>
     ((ResetOf 0 .inReset s t ∧ sameMram s t) ∨ t = { s with free := s.free + 1 }) ∧ t.free = s.free + 1) ∧
   (∀ supply s, s.safe → Completes (.brownOut supply) s fun t =>
     ResetOf (match supply with | .io => 1 | .core => 2 | .mem => 3 | .ana => 4) .inReset s t ∧ supply ∈ t.pwr.brown ∧
       (∀ x, x ∈ t.pwr.brown ↔ x = supply ∨ x ∈ s.pwr.brown) ∧ t.pwr.strapsKept = (s.pwr.strapsKept && decide (supply ≠ .io)) ∧
       t.pwr.resetLow = (s.pwr.resetLow && decide (supply ≠ .io)) ∧
       (s.stg.job = none → s.flt.copies = [] ∨ s.keeperUp = false → sameMram s t) ∧
       (∀ j, s.stg.job = some j → j.entries.length ≤ 8190 →
         let base := if j.toB then Mram.copyB else Mram.copyA
         (t.rd32 base = s.rd32 base ∨ t.rdBytes base (16 + 8 * j.entries.length) = copyBytes j.seq j.entries) ∧
         ∀ a, regionOf a = some .mram → a < base ∨ base + 16 + 8 * j.entries.length ≤ a → t.rd8 a = s.rd8 a) ∧
       (∀ r rest, s.stg.job = none → s.flt.copies = r :: rest → s.flt.bbNext < 4096 →
         let slot := 0x04220000 + 16 * s.flt.bbNext
         (t.rdBytes slot 16 = s.rdBytes slot 16 ∨ t.rdBytes slot 16 = recordBytes (s.recordNow (s.flt.failed.getD r)) s.flt.bbSeq ∨
           field (t.rdBytes slot 16) 0 2 = 0 ∨ ((t.rdBytes slot 16).map BitVec.toNat).sum % 256 ≠ 0) ∧
         ∀ a, regionOf a = some .mram → a < slot ∨ slot + 16 ≤ a → t.rd8 a = s.rd8 a)))

/-- The rising edge of RESET_N latches the straps while the node is in reset, and starts the boot ROM when the supplies are good; so does
the release of the brown-outs while the strap latch holds, which waits for VDD_PIX too on a BRN-V64 (R95, R96, R97, R99; log entry 91). At the end of
the reset every unit and register holds its reset value (R737), and PWR_RST_CAUSE its causes; lost memory reads as 0, log entry 6.
REFLEX_ARMED: the boot ROM takes CMP0 to CMP3 and their
pins' modes from the newest valid settings copy, loads the filtered states, and goes on as the straps say (R101, R106, R107, R631, R668). -/
def Obligations.BootRomStartsAndArms : Prop :=
  let powered := fun (s : State) (p : Pwr) => ({ s with units := { s.units with pwr := p } } : State)
  let ends := fun s t : State => Cleared .rom s t ∧ t.stored Reg.pwrRstCause = s.stored Reg.pwrRstCause ∧ sameMram s t ∧
    t.pwr.resetLow = false ∧ t.pwr.strapsKept = true ∧ t.pwr.brown = [] ∧ t.pwr.triedA = s.pwr.triedA ∧ t.pwr.triedB = s.pwr.triedB
  ((∀ straps s, s.safe → s.pwr.phase = .inReset → s.pwr.resetLow = true →
     let u := powered s { s.pwr with
       strapPins := straps, resetLow := false
       straps := if Supply.io ∈ s.pwr.brown then s.pwr.straps else straps
       strapsKept := decide (Supply.io ∉ s.pwr.brown) }
     (s.pwr.brown ≠ [] → exec (.resetNRise straps) s = .next u) ∧
     (s.pwr.brown = [] → Completes (.resetNRise straps) s fun t => ends u t)) ∧
   (∀ straps s, s.pwr.phase ≠ .inReset ∨ s.pwr.resetLow = false →
     exec (.resetNRise straps) s = .next { s with units := { s.units with pwr := { s.pwr with strapPins := straps } } }) ∧
   (∀ s, s.fuse.isV64 = true → s.pwr.vddPixLow = true → exec .brownOutRelease s = .next s) ∧
   (∀ s, s.safe → s.fuse.isV64 = false ∨ s.pwr.vddPixLow = false →
     let u := powered s { s.pwr with brown := [] }
     let due := s.pwr.phase = .inReset ∧ s.pwr.resetLow = false ∧ s.pwr.strapsKept = true
     (¬due → exec .brownOutRelease s = .next u) ∧ (due → Completes .brownOutRelease s fun t => ends u t))) ∧
  ((∀ ok s, s.pwr.phase ≠ .rom → exec (.reflexArmed ok) s = .next s) ∧
   (∀ ok s, s.safe → s.pwr.phase = .rom →
     let u : State := { s with units := { s.units with pwr := { s.pwr with mramOk := ok } } }
     Completes (.reflexArmed ok) s fun t =>
       t.pwr = { s.pwr with
         mramOk := ok
         phase := if s.pwr.straps.mode1 then .jtagHold else if s.pwr.straps.mode0 then .hostBoot else .armed } ∧
       (u.newestCopy = none → ∀ a ∈ [Reg.cmp0Ctrl, Reg.cmp0Ctrl + 4, Reg.cmp0Ctrl + 8, Reg.cmp0Ctrl + 12, Reg.pmAinMode],
         t.stored a = s.stored a) ∧
       (∀ c, u.newestCopy = some c → ∀ l e m, s.copyEntries c = l ++ e :: m → (∀ x ∈ m, x.1 ≠ e.1) →
         (e.1 ∈ [Reg.cmp0Ctrl, Reg.cmp0Ctrl + 4, Reg.cmp0Ctrl + 8, Reg.cmp0Ctrl + 12] →
           t.stored e.1 &&& stagedMask e.1 = e.2 &&& stagedMask e.1) ∧
         (e.1 = Reg.pmAinMode → bits (t.stored e.1) 3 0 = bits e.2 3 0 ∧ bits (t.stored e.1) 31 4 = bits (s.stored e.1) 31 4)) ∧
       (∀ n < 4, t.rfx.filt.getLsbD n =
         if t.flag (Reg.cmp0Ctrl + 4 * n) 31 && t.flag Reg.pmAinMode n && (s.handHold (8 + n)).isNone then t.rfx.raw.getLsbD n
         else s.rfx.filt.getLsbD n) ∧
       (t.rfx.raw = 0 →
         regsBut [Reg.cmp0Ctrl, Reg.cmp0Ctrl + 4, Reg.cmp0Ctrl + 8, Reg.cmp0Ctrl + 12, Reg.pmAinMode] s t ∧ t.rfx.latch = s.rfx.latch) ∧
       t.stg = s.stg ∧ sameMem s t))

/-- A VDD_PIX brown-out switches the imager off, sets PIX_BROWN and raises its record; VDD_PIX's return switches the imager on outside KEEP
(R100). The imager takes a frame that a PIXEL command awaits at the arming time, exposes it and delivers its rows, the light of each pixel
binned as its mode says, times GAIN, after black level; a row with a segment that its graft port corrupted repeats the one before with GRAFT_ERR, and
adds nothing to SAT (log entry 76). The command keeps the words that it had at its issue (R321). It completes with its frame: every level of its pyramid
and its statistics, which carry TICK_NUM, are written, no other byte is, and its list goes on (R544, R546 to R551, R556, R558, R561, R562; log entry
93). -/
def Obligations.ImagerDeliversFrames : Prop :=
  ((∀ s, s.safe → s.fuse.isV64 = true → Completes .pixBrown s fun t =>
     t.pwr = { s.pwr with vddPixLow := true } ∧ t.img.on = false ∧ t.img.ready = false ∧ t.img.strobe = false ∧ t.img.exposing = false ∧
       t.img.browned = (s.img.browned || (s.img.taken && decide (s.img.rows.length ≠ (frameShape s).2.1))) ∧ t.flag Reg.pwrFlags 0 = true ∧
       t.fld Reg.pwrCnt0 15 0 = min (s.fld Reg.pwrCnt0 15 0 + 1) 65535 ∧
       (s.romOnly = false → ∃ c, t.flt.conds = s.flt.conds ++ [c] ∧ c.code = 0x0F04 ∧ c.sev = 1 ∧ c.data = 0) ∧
       regsBut [Reg.pwrFlags, Reg.pwrCnt0] s t ∧ sameMem s t ∧
       t.units = { s.units with pwr := t.pwr, img := t.img, flt := t.flt }) ∧
   (∀ s, s.fuse.isV64 = false → exec .pixBrown s = .next s) ∧
   (∀ s, Completes .vddPixRestore s fun t =>
     t.pwr = { s.pwr with vddPixLow := false } ∧
       t.img = (if s.imagerPresent = true ∧ s.pwr.level ≠ .keep ∧ s.img.on = false then { s.img with on := true, ready := false } else s.img) ∧
       t.units = { s.units with pwr := t.pwr, img := t.img } ∧ regsBut [] s t ∧ sameMem s t)) ∧
  (let img := fun (s : State) (i : Img) => ({ s with units := { s.units with img := i } } : State)
   let enabled := fun s : State => (s.pwr.level = .watch ∧ s.wm.frame = true) ∨ (s.pwr.level = .run ∧ s.flag Reg.imgCtrl 0 = true)
   (∀ s, s.pwr.level = .keep → exec .armingTime s = .next s) ∧
   (∀ s, s.pwr.level ≠ .keep →
     (enabled s → s.img.ready = true → exec .armingTime s = .next (img s { s.img with armPassed := true, armOk := true, taken := s.img.taken || pixelWaits s })) ∧
     (¬(enabled s ∧ s.img.ready = true) → exec .armingTime s = .next (img s { s.img with armPassed := true, armOk := false }))) ∧
   (∀ s, let on := s.flag (if s.pwr.level = .watch then Reg.watchCtrl else Reg.imgCtrl) (if s.pwr.level = .watch then 24 else 8)
     exec .strobeAssert s = .next (if s.img.taken = true ∧ s.img.browned = false ∧ on = true then img s { s.img with strobe := true } else s)) ∧
   (∀ s, exec .exposureStart s = .next (if s.img.taken = true ∧ s.img.browned = false ∧ s.img.exposed = false then
     img s { s.img with exposing := true } else s)) ∧
   (∀ s, exec .exposureEnd s = .next (if s.img.exposing = true then img s { s.img with exposing := false, exposed := true } else s)) ∧
   (∀ s, exec .strobeRelease s = .next (img s { s.img with strobe := false })) ∧
   (∀ s, exec .imgReady s = .next (if s.img.on = true then img s { s.img with ready := true } else s)) ∧
   (∀ row light (corrupt : BitVec 16) s, s.safe →
     let cols := (frameShape s).1
     let n := (frameShape s).2.2
     let lit := fun c => ((List.range n).map fun i => ((List.range n).map fun j => (light[1024 * i + n * c + j]?).getD 0).sum).sum
     let vals := (List.range cols).map fun c => min 1023 ((2 * (lit c * 2 ^ s.fld Reg.imgCtrl 5 4) + n * n) / (2 * (n * n)))
     let due := s.img.exposed = true ∧ s.img.browned = false ∧ row = s.img.rows.length ∧ row < (frameShape s).2.1 ∧ pixelWaits s = true
     let black := fun v => if ∃ w, pixelWord s = some w ∧ bit w 16 = true then v - s.fld Reg.pixBlack 9 0 else v
     (¬due → exec (.imagerRow row light corrupt) s = .next s) ∧
     (due → corrupt = 0 → Completes (.imagerRow row light corrupt) s fun t =>
       t.img.rows.length = s.img.rows.length + 1 ∧ s.img.rows <+: t.img.rows ∧
       (∀ i, i < cols → ((t.img.rows[row]?.getD [])[i]?).getD 0 = black (vals[i]?.getD 0)) ∧
       t.img.sat = s.img.sat + (vals.filter fun v => v == 1023).length ∧ t.units = { s.units with img := t.img } ∧ regsBut [] s t ∧ sameMem s t) ∧
     (due → corrupt ≠ 0 → Completes (.imagerRow row light corrupt) s fun t =>
       t.img = { s.img with rows := s.img.rows ++ [(match s.img.rows.getLast? with | some l => l | none => List.replicate cols 0)] } ∧
       t.flag Reg.pixFlags 1 = true ∧ t.fld Reg.pixRowerr 31 0 = min (s.fld Reg.pixRowerr 31 0 + 1) 0xFFFFFFFF ∧
       (s.romOnly = false → ∃ c, t.flt.conds = s.flt.conds ++ [c] ∧ c.code = 0x0A02 ∧ c.sev = 1) ∧
       t.units = { s.units with img := t.img, flt := t.flt } ∧ regsBut [Reg.pixFlags, Reg.pixCnt0, Reg.pixRowerr] s t ∧ sameMem s t)) ∧
   (∀ s, mayIssue s .pe 0x40 = false → exec .pixel s = .next s) ∧
   (∀ s r, s.eng.pe = some r → mayIssue s .pe 0x40 = true →
     exec .pixel s = .next { s with units := { s.units with eng := { s.eng with pe := some { r with block := .busy (s.command r) } } } }) ∧
   (∀ s, (∀ r ws, s.eng.pe = some r → r.block ≠ .busy ws) → exec .pixelComplete s = .next s) ∧
   (∀ s r ws, s.safe → s.eng.pe = some r → r.block = .busy ws →
     let ready := bits (wordAt ws 1) 31 28 = 0 → s.img.rows.length = (frameShape s).2.1 ∧ s.img.browned = false
     let out := (wordAt ws 3).toNat
     let stat := (wordAt ws 4).toNat
     let stats := bit (wordAt ws 1) 19 = true
     let levels := pyramid (bits (wordAt ws 1) 25 24) (levelZero s ws)
     let start := fun k => out + ((levels.take k).map fun f => (f.rows * f.cols + 15) / 16 * 16).sum
     let size := start levels.length - out
     (¬ready → exec .pixelComplete s = .next s) ∧
     (ready → Completes .pixelComplete s fun t =>
       Advanced .pe r ws.length s t ∧
       (stats → inOneRange stat 4 = true → t.rd32 stat = s.tick.num) ∧
       (stats → inOneRange stat 1056 = true → t.rdBytes (stat + 4) 1052 = statsRecord (levelZero s ws).values (satCount s ws)) ∧
       (inOneRange out size = true → (stats → stat + 1056 ≤ out ∨ out + size ≤ stat) → ∀ k f, levels[k]? = some f →
         ∀ y < f.rows, ∀ x < f.cols, t.rd8 (start k + y * f.cols + x) = BitVec.ofNat 8 (normalise s ws (f.v y x)).code) ∧
       (∀ a, a < out ∨ out + size ≤ a → (stats → a < stat ∨ stat + 1056 ≤ a) → t.rd8 a = s.rd8 a) ∧
       regsBut ([Reg.qsFlags, Reg.qsCnt0, Reg.qsCnt1, Reg.qsSatElems, Reg.qsNanElems] ++ engPosRegs) s t ∧
       t.units = { s.units with eng := t.eng })))

/-- FIRMWARE_SLOT_START: of the valid slots that have not failed to come up the boot ROM starts the one with the higher sequence number, and
FW_FALLBACK tells that it was the lower; without one the node gives ROM-only service (R108 to R111). Where an image's header holds its
fields is a free value of the model, log entry 28. -/
def Obligations.FirmwareSlotStarts : Prop :=
  (∀ s, s.pwr.phase ≠ .armed → exec .firmwareSlotStart s = .next s) ∧
  (∀ s, s.safe → s.pwr.phase = .armed →
    let can := fun b : Bool => s.slotValid b = true ∧ (if b then s.pwr.triedB else s.pwr.triedA) = false
    Completes .firmwareSlotStart s fun t =>
      (∀ b : Bool, can b → (can (!b) → s.slotSeq (!b) < s.slotSeq b ∨ (s.slotSeq (!b) = s.slotSeq b ∧ b = false)) →
        t.pwr = { s.pwr with phase := .firmware, slotB := b } ∧ t.stored Reg.pwrFwSeq = BitVec.ofNat 32 (s.slotSeq b) ∧
        (if s.slotSeq b < s.slotSeq (!b) then t.flag Reg.pwrFlags 1 = true ∧ regsBut [Reg.pwrFwSeq, Reg.pwrFlags, Reg.pwrCnt0] s t
         else regsBut [Reg.pwrFwSeq] s t)) ∧
      (¬can false → ¬can true →
        t.pwr = { s.pwr with phase := .romOnly } ∧ t.flt.conds = [] ∧
          (∃ x, t.flt.log.getLast? = some x ∧ x.code = 0x0F01 ∧ (s.flt.log = [] → t.flt.log = [x])) ∧
          regsBut [Reg.fltFlags, Reg.fltCnt0, Reg.fltLast, Reg.fltCnt1, Reg.hpIrqStat, Reg.hpCnt1] s t) ∧
      t.stg = s.stg ∧ t.hp = s.hp ∧ t.link = s.link ∧ t.rfx = s.rfx ∧ sameMem s t)

/-- KEEPER_UP: unless firmware SRAM has failed (Table 3-10), the keeper set is up, the RESET condition is the first that waits for its record, before
those that have waited since the reset, and the newest valid settings copy is
recalled and committed whole, or rejected with BOOT_REJECT; a head starts to enumerate (R112, R113, R173, R269, R271, R272). -/
def Obligations.KeeperComesUp : Prop :=
  (∀ ref ok s, s.pwr.phase ≠ .firmware ∨ s.pwr.fwSramOk = false → exec (.keeperUp ref ok) s = .next s) ∧
  (∀ ref ok s, s.safe → s.pwr.phase = .firmware → s.pwr.fwSramOk = true → s.stg = Stg.reset →
    Completes (.keeperUp ref ok) s fun t =>
      t.pwr = { s.pwr with phase := .keeper, rowLinkOk := ok } ∧ t.stg = Stg.reset ∧
      t.fld Reg.pwrBootTime 7 0 = min 255 ((s.now - s.pwr.bootAt) / 1000000) ∧
      (∃ c rest, t.flt.conds = c :: (s.flt.conds ++ rest) ∧ c.code = 0x0F01 ∧ c.data = s.stored Reg.pwrRstCause) ∧
      (s.newestCopy = none → s.isHead = false → regsBut [Reg.pwrBootTime] s t) ∧
      (∀ c, s.newestCopy = some c →
        let staged := fun e : Nat × Word => stagedMask e.1 ≠ 0 ∧ e.1 ≠ Reg.stgUnlock
        (∃ e ∈ s.copyEntries c, staged e) →
        (t.stored Reg.stgFail = 0 ∧ ∀ l e m, s.copyEntries c = l ++ e :: m → staged e → (∀ x ∈ m, x.1 ≠ e.1) →
          t.stored e.1 &&& stagedMask e.1 = e.2 &&& stagedMask e.1) ∨
        (t.stored Reg.stgFail ≠ 0 ∧ t.flag Reg.nvmFlags 2 = true ∧
          ∀ a, t.stored a &&& stagedMask a = s.stored a &&& stagedMask a)) ∧
      (s.isHead = true → t.link.enumBusy = true) ∧ t.pwr.level = s.pwr.level ∧ sameMem s t)

/-- BIST_COMPLETE fills SYS_CAPS, SYS_CORE_LO, SYS_CORE_HI and PWR_BIST, sets BIST_FAIL when a block failed, turns a failed converter off, and
enters BOOT_LEVEL where it is allowed; in ROM-only service PWR_BIST and BIST_FAIL alone tell of it, and a failure of firmware SRAM takes KEEPER_UP from
a node whose firmware runs (R43, R114, R116, R124, R624, Table 3-10). That BIST counts once in a boot, and what its failures leave of firmware, is
the model's reading, log entry 34; so is that BOOT_LEVEL comes in place of a pending change, log entry 33. -/
def Obligations.BistReports : Prop :=
  let word := fun (s : State) (b : Bist) => BitVec.ofNat 32
    (fromBits [!b.fwSram, !s.pwr.mramOk, !b.memDie, !b.shSram, s.fuse.isV64 && !b.scion, !b.pe, !b.adcA, !b.adcB])
  let failed := fun (s : State) (b : Bist) => word s b ≠ 0 ∨ b.coreOk ≠ BitVec.allOnes 64 ∨ s.pwr.rowLinkOk = false
  let recorded := fun (s t : State) (b : Bist) => t.stored Reg.pwrBist = word s b ∧ (failed s b → t.flag Reg.pwrFlags 2 = true) ∧
    (¬failed s b → t.stored Reg.pwrFlags = s.stored Reg.pwrFlags)
  (∀ b s, s.pwr.bistRan = true ∨ (s.keeperUp = false ∧ s.romOnly = false ∧ (s.pwr.phase ≠ .firmware ∨ b.fwSram = true)) →
    exec (.bistComplete b) s = .next s) ∧
  (∀ b s, s.safe → s.pwr.phase = .firmware ∨ s.keeperUp = true → b.fwSram = false → s.pwr.bistRan = false →
    Completes (.bistComplete b) s fun t =>
      recorded s t b ∧ (∃ c, t.flt.conds = s.flt.conds ++ [c] ∧ c.code = 0x0F02 ∧ c.sev = 2 ∧ c.data = word s b) ∧
      t.units = { s.units with pwr := { s.pwr with bistRan := true, phase := .firmware, fwSramOk := false }, flt := t.flt } ∧
      regsBut [Reg.pwrBist, Reg.pwrFlags, Reg.pwrCnt1] s t ∧ sameMem s t) ∧
  (∀ b s, s.safe → s.romOnly = true → s.pwr.bistRan = false → Completes (.bistComplete b) s fun t =>
    recorded s t b ∧ t.units = { s.units with pwr := { s.pwr with bistRan := true } } ∧
      regsBut [Reg.pwrBist, Reg.pwrFlags, Reg.pwrCnt1] s t ∧ sameMem s t) ∧
  (∀ b s, s.safe → s.keeperUp = true → b.fwSram = true → s.pwr.bistRan = false →
    Completes (.bistComplete b) s fun t =>
      t.pwr.bistDone = true ∧ t.pwr.coreOk = b.coreOk ∧ t.pwr.memDieOk = b.memDie ∧ t.pwr.shSramOk = b.shSram ∧ t.pwr.adcAOk = b.adcA ∧
      t.pwr.adcBOk = b.adcB ∧ t.pwr.peOk = b.pe ∧ t.pwr.imagerOk = (b.scion && b.pe) ∧ recorded s t b ∧
      bits (t.readReg Reg.sysCaps) 22 16 = ((List.range 64).filter fun n => b.coreOk.getLsbD n).length ∧
      bit (t.readReg Reg.sysCaps) 2 = (s.fuse.isV64 && b.scion && b.pe) ∧ bit (t.readReg Reg.sysCaps) 1 = b.memDie ∧
      bit (t.readReg Reg.sysCaps) 0 = s.pwr.mramOk ∧
      t.readReg Reg.sysCoreLo = b.coreOk.setWidth 32 ∧ t.readReg Reg.sysCoreHi = (b.coreOk >>> 32).setWidth 32 ∧
      (b.adcA = true → t.adc.a = s.adc.a) ∧ (b.adcA = false → t.adc.a = ConvSt.reset ∧ t.stored Reg.adcAData = 0) ∧
      (b.adcB = true → t.adc.b = s.adc.b) ∧ (b.adcB = false → t.adc.b = ConvSt.reset ∧ t.stored Reg.adcBData = 0) ∧
      t.fld Reg.pwrBootTime 23 16 = min 255 ((s.now - s.pwr.bootAt) / 1000000) ∧
      (s.flag Reg.pwrLevel 0 = false → t.pwr.level = s.pwr.level ∧ t.pwr.pend = s.pwr.pend) ∧
      (s.flag Reg.pwrLevel 0 = true → t.allows .watch = true → s.pwr.level = .keep →
        if s.tick.running = true ∨ s.tick.pass = true then t.pwr.pend = some .watch ∧ t.pwr.pendReady = true ∧ t.pwr.level = .keep
        else t.pwr.level = .watch) ∧
      t.stg = s.stg ∧ t.hp = s.hp ∧ t.link = s.link ∧ t.rfx = s.rfx ∧ t.tick.num = s.tick.num)

/-- FW_UPDATE (0x3F) takes chunks in order; the last one's image is checked, then started in host boot or written to a slot. The outcome of
the write is a free value, log entry 9, and so are the places in an image's header, log entry 28. In normal service the slot is the one that does not
run; in ROM-only service an invalid one, or that with the lower number (R218, R219). How the number of the new image is found, and that a slot changes at
the last chunk alone, is the model's reading, log entry 35. -/
def Obligations.FirmwareUpdateActs : Prop :=
  ∀ r s, Fresh 0x3F r s → s.safe →
    let off := field r.payload 0 4
    let total := field r.payload 4 4
    let data := r.payload.drop 8
    let host := s.pwr.straps.mode1 = false ∧ s.pwr.straps.mode0 = true
    let most := if s.pwr.straps.mode1 = false ∧ s.pwr.straps.mode0 = true then 0x40000 else 0x100000
    let good := 1 ≤ data.length ∧ data.length ≤ 4088 ∧ total ≤ most ∧ off + data.length ≤ total
    let follows := fun b : List Byte => (off = 0 ∧ b = []) ∨ (off ≠ 0 ∧ ∃ x, s.pwr.xfer = some x ∧ x.total = total ∧ x.data = b ∧ b.length = off)
    let seq := fun b : Bool => if s.romOnly = true ∧ s.slotValid b = false then 0 else s.slotSeq b
    let next : Word := BitVec.ofNat 32 (max (seq false) (seq true) + 1)
    Completes (.fwUpdate r) s fun t =>
      (¬good ∨ (¬∃ b, follows b) → Answered 0x3F r t 0x04 [] ∧ t.pwr = s.pwr ∧ sameMem s t ∧ regsBut [] s t) ∧
      (good → ∀ b, follows b → off + data.length < total →
        Answered 0x3F r t 0x00 (leBytes 4 (off + data.length)) ∧ t.pwr = { s.pwr with xfer := some { total := total, data := b ++ data } } ∧
          sameMem s t ∧ regsBut [] s t) ∧
      (good → ∀ b, follows b → off + data.length = total → imageValid (b ++ data) = false →
        Answered 0x3F r t 0x04 [] ∧ t.pwr = { s.pwr with xfer := none } ∧ sameMem s t ∧ regsBut [] s t) ∧
      (good → ∀ b, follows b → off + data.length = total → imageValid (b ++ data) = true → host →
        Answered 0x3F r t 0x00 (leBytes 4 total) ∧ t.pwr = { s.pwr with xfer := none, hostImage := true, phase := .firmware } ∧
          sameMem s t ∧ regsBut [Reg.pwrFwSeq] s t) ∧
      (good → ∀ b, follows b → off + data.length = total → imageValid (b ++ data) = true → ¬host →
        t.pwr = { s.pwr with xfer := none } ∧ regsBut [] s t ∧
        (s.romOnly = false → fwTarget s = !s.pwr.slotB) ∧
        (s.romOnly = true → s.slotValid (fwTarget s) = true →
          s.slotValid (!fwTarget s) = true ∧ s.slotSeq (fwTarget s) ≤ s.slotSeq (!fwTarget s)) ∧
        (∀ a, a < slotBase (fwTarget s) ∨ slotBase (fwTarget s) + total ≤ a → t.rd8 a = s.rd8 a) ∧
        ((Answered 0x3F r t 0x00 (wordBytes next) ∧ t.rdBytes (slotBase (fwTarget s)) total = fwStamped (b ++ data) next) ∨
          Answered 0x3F r t 0x08 [])) ∧
      onlyPorts { s with units := { s.units with pwr := t.pwr } } t

/-- A node that serves packets answers read transactions: the reply at the front of the queue, which leaves it when it was clocked out
whole, zeros from an empty queue, and HP_QSTAT. The command bytes of Table 5-1 ask for these transactions and for a write, on one lane or
four; any other one sets FRAME_ERR and drives nothing (R202, R205, R207, R208, R231). That a node which serves no packets takes no transaction is the
model's choice, log entry 2. -/
def Obligations.HostReadsReturnReplies : Prop :=
  (∀ n s, s.answers = true → s.hp.queue = [] →
    exec (.hpReadReply n) s = .next { s with units := { s.units with hp := { s.hp with sio := List.replicate n 0 } } }) ∧
  (∀ n s q rest, s.answers = true → s.hp.queue = q :: rest → n < q.bytes.length →
    exec (.hpReadReply n) s = .next { s with units := { s.units with hp := { s.hp with sio := q.bytes.take n } } }) ∧
  (∀ n s q rest, s.answers = true → s.hp.queue = q :: rest → q.bytes.length ≤ n →
    Completes (.hpReadReply n) s fun t =>
      t.hp.sio = q.bytes ++ List.replicate (n - q.bytes.length) 0 ∧ t.hp.queue = rest ∧
      (∀ o, o ∈ t.hp.out ↔ o ∈ s.hp.out ∧ ¬(q.owns = true ∧ o.queued = true ∧ o.dest = q.dest ∧ o.tag = q.tag)) ∧
      t.units = { s.units with hp := { s.hp with sio := t.hp.sio, queue := rest, out := t.hp.out } } ∧ regsBut [] s t ∧ sameMem s t) ∧
  (∀ s, s.answers = true →
    exec .hpReadStatus s = .next { s with units := { s.units with hp := { s.hp with sio := wordBytes (s.readReg Reg.hpQstat) } } }) ∧
  (∀ code bytes n s, s.safe → s.answers = true → code ∉ ([0x61, 0x6A, 0x62, 0x6B, 0x63] : List Byte) →
    Completes (.unknownCommandByte ⟨code, bytes, n⟩) s fun t =>
    t.hp = { s.hp with sio := [] } ∧ t.flag Reg.hpIrqStat 9 = true ∧ t.fld Reg.hpCnt4 15 0 = min (s.fld Reg.hpCnt4 15 0 + 1) 65535 ∧
      regsBut [Reg.hpIrqStat, Reg.hpCnt4] s t ∧ sameMem s t ∧ t.units = { s.units with hp := t.hp }) ∧
  (∀ bytes n s,
    (∀ code ∈ ([0x61, 0x6A] : List Byte), exec (.unknownCommandByte ⟨code, bytes, n⟩) s = exec (.hpWriteRequest bytes) s) ∧
    (∀ code ∈ ([0x62, 0x6B] : List Byte), exec (.unknownCommandByte ⟨code, bytes, n⟩) s = exec (.hpReadReply n) s) ∧
    exec (.unknownCommandByte ⟨0x63, bytes, n⟩) s = exec .hpReadStatus s) ∧
  (∀ n code bytes s, s.answers = false → exec (.hpReadReply n) s = .next s ∧ exec .hpReadStatus s = .next s ∧
    exec (.unknownCommandByte ⟨code, bytes, n⟩) s = .next s ∧ exec (.hpWriteRequest bytes) s = .next s)

/-- A write transaction is judged in the order of Table 5-6: framing (FRAME_ERR), CRC (BAD_CRC), the reserved bits of DEST (BAD_PARAM), the
route (NO_ROUTE), a duplicate at the head (only counted), and the head's limits (BUSY); then, where it executes, the TAG: a request that is known and
answered gets its reply again, REPLAYED in place of OK, and one that is known and still runs is only counted; the opcode (BAD_OPCODE); a broadcast of an
opcode that takes none (BAD_PARAM); and ROM-only service (DENIED). None of these executes anything (R111, R206, R210, R211, R224, R228 to R231, Table
5-6). That DEST 0 counts as address 1 at the head is the model's reading, log entry 51; the payload of LOAD_IMAGE's BAD_PARAM is log entry 101, host boot
log entry 15, and that a request waits behind an ADC_CAL that waits for its converter log entry 102 (R32). -/
def Obligations.BadRequestsAreTurnedAway : Prop :=
  (∀ op r c s, s.safe → rowOf op r = some c → s.answers = true →
    let known := (s.hp.window r.path).find? fun e => e.tag == r.tag
    let spread := r.bcast = true ∧ op ∈ broadcastOps
    let last := fun (t : State) (b : List Byte) =>
      (r.path = .host → ¬spread → t.hp.queue =
        s.hp.queue ++ [⟨b, if r.bcast = true then 0x3F else if s.isHead = true then 1 else s.link.addr, r.tag, true⟩]) ∧
      (r.path = .row → Sends .up t 1 1 (padEven b))
    (∀ e src op' st pl, known = some e → e.reply = some (replyPacket src op' r.tag st pl) → src < 256 → op' < 256 → st < 256 → pl.length < 65536 →
      Completes c s fun t =>
        last t (replyPacket src op' r.tag (if st = 0x00 then 0x0E else st) pl) ∧
        t.fld Reg.hpCnt5 31 16 = min (s.fld Reg.hpCnt5 31 16 + 1) 65535 ∧ onlyPorts s t ∧ regsBut (Reg.hpCnt5 :: replyRegs r) s t ∧ sameMem s t) ∧
    (∀ e, known = some e → e.reply = none →
      Completes c s fun t =>
        t.fld Reg.hpCnt5 15 0 = min (s.fld Reg.hpCnt5 15 0 + 1) 65535 ∧ t.units = (s.touched r).units ∧ regsBut [Reg.hpCnt5] s t ∧ sameMem s t) ∧
    (known = none → s.hp.parked ≠ [] →
      Completes c s fun t =>
        t.units = { (s.touched r).units with hp := { (s.touched r).hp with parked := s.hp.parked ++ [(op, r)] } } ∧ regsBut [] s t ∧ sameMem s t) ∧
    (known = none → s.hp.parked = [] → r.bcast = true → op ∉ broadcastOps →
      Completes c s fun t =>
        last t (replyTo t op r 0x04 (if op = 0x18 then [0xFF, 0xFF, 0, 0] else [])) ∧ onlyPorts s t ∧ regsBut [] s t ∧ sameMem s t) ∧
    (known = none → s.hp.parked = [] → (r.bcast = true → op ∈ broadcastOps) → s.keeperUp = false → op ∉ romOps →
      Completes c s fun t =>
        last t (replyTo t op r 0x09 []) ∧ onlyPorts s t ∧ regsBut (replyRegs r) s t ∧ sameMem s t)) ∧
  (∀ f s, s.safe →
    let len := field f.payload 4 2
    let bytes := f.payload.take (8 + len)
    let op := field bytes 2 1
    let req := ({ path := .row, bcast := false, tag := BitVec.ofNat 8 (field bytes 3 1), payload := (bytes.drop 6).take len } : Req)
    InSequence .up 1 f s → s.answers = true → s.isHead = false → f.dst = s.link.addr → f.dst ≠ 0x3F → field f.payload 0 1 = 0xA5 → len ≤ 4096 →
    bytes.length = 8 + len → field bytes (6 + len) 2 = (crc16 ((bytes.drop 1).take (5 + len))).toNat → op ∉ knownOps → s.hp.parked = [] →
    (s.hp.winRow.find? fun e => e.tag == req.tag) = none →
    Completes (.pkt .up f) s fun t => Answered op req t 0x03 [] ∧ onlyPorts s t ∧ regsBut [] s t ∧ sameMem s t) ∧
  ∀ bytes s, s.safe → s.answers = true →
    let len := field bytes 4 2
    let op := field bytes 2 1
    let d := field bytes 1 1
    let tag := BitVec.ofNat 8 (field bytes 3 1)
    let framed := 8 ≤ bytes.length ∧ field bytes 0 1 = 0xA5 ∧ len ≤ 4096 ∧ bytes.length = 8 + len
    let checked := field bytes (6 + len) 2 = (crc16 ((bytes.drop 1).take (5 + len))).toNat
    let dup := s.isHead = true ∧ ∃ o ∈ s.hp.out, o.dest = BitVec.ofNat 6 (if d = 0 then 1 else d) ∧ o.tag = tag
    let routed := if s.isHead = true then d = 0x3F ∨ d ≤ max 1 s.link.rowLen else d = 0 ∨ d = s.link.addr.toNat
    let room := if d = 0x3F ∧ op ∈ broadcastOps then 9 + s.link.rowLen else largestReply op ((bytes.drop 6).take len)
    let full := s.isHead = true ∧ mustBusy s (BitVec.ofNat 6 (if d = 0 then 1 else d)) room = true
    Completes (.hpWriteRequest bytes) s fun t =>
      let none' := fun st : Nat => if op = 0x18 ∧ st = 0x04 then [0xFF, 0xFF, 0, 0] else ([] : List Byte)
      let told := fun src st => t.hp.queue = s.hp.queue ++ [⟨replyPacket src op tag st (none' st), 0, tag, false⟩] ∧ t.hp.out = s.hp.out
      (¬framed → t.flag Reg.hpIrqStat 9 = true ∧ t.hp.queue = s.hp.queue ∧ regsBut [Reg.hpIrqStat, Reg.hpCnt4] s t) ∧
      (framed → ¬checked → told 0 0x02 ∧ t.fld Reg.hpCnt4 31 16 = min (s.fld Reg.hpCnt4 31 16 + 1) 65535 ∧ regsBut [Reg.hpCnt4] s t) ∧
      (framed → checked → 64 ≤ d → told s.link.addr.toNat 0x04 ∧ regsBut [] s t) ∧
      (framed → checked → d < 64 → ¬routed → told (if s.isHead = true then 1 else s.link.addr.toNat) 0x0B ∧ regsBut [] s t) ∧
      (framed → checked → d < 64 → routed → dup →
        t.hp.queue = s.hp.queue ∧ t.fld Reg.hpCnt5 15 0 = min (s.fld Reg.hpCnt5 15 0 + 1) 65535 ∧ regsBut [Reg.hpCnt5] s t) ∧
      (framed → checked → d < 64 → routed → ¬dup → full →
        told 1 0x01 ∧ t.fld Reg.hpCnt6 15 0 = min (s.fld Reg.hpCnt6 15 0 + 1) 65535 ∧ regsBut [Reg.hpCnt6] s t) ∧
      (framed → checked → d < 64 → routed → ¬dup → ¬full → op ∉ knownOps → (s.isHead = true → d ≤ 1 ∨ d = 0x3F) → s.hp.parked = [] →
        (s.hp.winHost.find? fun e => e.tag == tag) = none →
        (∃ q, t.hp.queue = s.hp.queue ++ [q] ∧ q.bytes = replyPacket s.link.addr.toNat op tag 0x03 [] ∧ q.tag = tag ∧ q.owns = true) ∧
          t.units = { s.units with hp := t.hp } ∧ regsBut [] s t ∧ sameMem s t) ∧
      (¬framed ∨ ¬checked ∨ 64 ≤ d ∨ ¬routed ∨ dup ∨ full →
        t.units = { s.units with hp := { s.hp with queue := t.hp.queue, sio := [] } } ∧ sameMem s t)

/-- A request packet for the node itself runs its opcode's row; the head counts it as outstanding first (R206, R222, R231, Tables 5-4, 5-6
and 5-7). That it counts one with DEST 0 as one to address 1 is the model's reading, log entry 51. -/
def Obligations.PacketRunsItsRow : Prop :=
  ∀ bytes s c,
    let len := field bytes 4 2
    let op := field bytes 2 1
    let d := field bytes 1 1
    let tag := BitVec.ofNat 8 (field bytes 3 1)
    let req : Req := { path := .host, bcast := false, tag := tag, payload := (bytes.drop 6).take len }
    s.answers = true → 8 ≤ bytes.length → field bytes 0 1 = 0xA5 → len ≤ 4096 → bytes.length = 8 + len →
    field bytes (6 + len) 2 = (crc16 ((bytes.drop 1).take (5 + len))).toNat → rowOf op req = some c →
    (s.isHead = false → d = 0 ∨ (d = s.link.addr.toNat ∧ d < 64) →
      ∃ t, exec (.hpWriteRequest bytes) s = .next t ∧
        exec c { s with units := { s.units with hp := { s.hp with sio := [] } } } = .next t) ∧
    (s.isHead = true → d ≤ 1 → (∀ o ∈ s.hp.out, ¬(o.dest = 1 ∧ o.tag = tag)) →
      mustBusy s 1 (largestReply op req.payload) = false →
      ∃ t, exec (.hpWriteRequest bytes) s = .next t ∧
        exec c { s with units := { s.units with hp := { s.hp with
          sio := []
          out := s.hp.out ++ [{ dest := 1, tag := tag, opcode := BitVec.ofNat 8 op, got := [], rowLen := s.link.rowLen,
                                queued := false, room := largestReply op req.payload }] } } } = .next t)

/-- The head forwards a request for a member on DN as a PKT frame, and sends a broadcast on DN and runs its row itself; each is outstanding,
and RTO ends it with TIMEOUT: a broadcast with the addresses that have not answered (R222 to R226, R231). That a broadcast's TIMEOUT writes no record is
the model's reading, log entry 85. -/
def Obligations.HeadForwardsAndTimesOut : Prop :=
  (∀ bytes s,
    let len := field bytes 4 2
    let op := field bytes 2 1
    let d := field bytes 1 1
    let tag := BitVec.ofNat 8 (field bytes 3 1)
    let payload := (bytes.drop 6).take len
    s.answers = true → s.isHead = true → 8 ≤ bytes.length → field bytes 0 1 = 0xA5 → len ≤ 4096 → bytes.length = 8 + len →
    field bytes (6 + len) 2 = (crc16 ((bytes.drop 1).take (5 + len))).toNat → 2 ≤ d → d ≤ s.link.rowLen → d < 0x3F →
    (∀ o ∈ s.hp.out, ¬(o.dest = BitVec.ofNat 6 d ∧ o.tag = tag)) → mustBusy s (BitVec.ofNat 6 d) (largestReply op payload) = false →
    Completes (.hpWriteRequest bytes) s fun t =>
      Sends .dn t 1 (BitVec.ofNat 6 d) (padEven bytes) ∧
      t.hp = { s.hp with
        sio := []
        out := s.hp.out ++ [{ dest := BitVec.ofNat 6 d, tag := tag, opcode := BitVec.ofNat 8 op, got := [], rowLen := s.link.rowLen,
                              queued := false, room := largestReply op payload }] } ∧
      onlyPorts s t ∧ regsBut [] s t ∧ sameMem s t) ∧
  (∀ bytes s c,
    let len := field bytes 4 2
    let op := field bytes 2 1
    let tag := BitVec.ofNat 8 (field bytes 3 1)
    let payload := (bytes.drop 6).take len
    let room := if op ∈ broadcastOps then 9 + s.link.rowLen else largestReply op payload
    s.answers = true → s.isHead = true → 8 ≤ bytes.length → field bytes 0 1 = 0xA5 → len ≤ 4096 → bytes.length = 8 + len →
    field bytes (6 + len) 2 = (crc16 ((bytes.drop 1).take (5 + len))).toNat → field bytes 1 1 = 0x3F →
    (∀ o ∈ s.hp.out, ¬(o.dest = 0x3F ∧ o.tag = tag)) → mustBusy s 0x3F room = false →
    rowOf op { path := .host, bcast := true, tag := tag, payload := payload } = some c →
    ∃ u t, exec (.hpWriteRequest bytes) s = .next t ∧ exec c u = .next t ∧
      u.hp = { s.hp with
        sio := []
        out := s.hp.out ++ [{ dest := 0x3F, tag := tag, opcode := BitVec.ofNat 8 op, got := [], rowLen := s.link.rowLen, queued := false,
                              room := room }] } ∧
      (op ∈ broadcastOps → 2 ≤ s.link.rowLen → Sends .dn u 1 0x3F (padEven bytes)) ∧
      (op ∉ broadcastOps ∨ s.link.rowLen < 2 → u.link = s.link) ∧
      u.units = { s.units with hp := u.hp, link := u.link } ∧ u.regs = s.regs ∧ u.mem = s.mem ∧ u.cycle = s.cycle) ∧
  (∀ dest tag s o, s.safe → s.hp.out.find? (fun o => o.dest == dest && o.tag == tag && !o.queued) = some o → 2 ≤ dest.toNat → dest ≠ 0x3F →
    Completes (.rtoExpiry dest tag) s fun t =>
      t.hp.queue = s.hp.queue ++ [⟨replyPacket 1 o.opcode.toNat tag 0x0A [], dest, tag, true⟩] ∧ t.flag Reg.hpIrqStat 7 = true ∧
      (s.romOnly = false → ∃ x, t.flt.conds = s.flt.conds ++ [x] ∧ x.code = 0x0401 ∧ x.sev = 1 ∧
        x.data = BitVec.ofNat 32 (65536 * tag.toNat + 256 * o.opcode.toNat + dest.toNat)) ∧
      regsBut [Reg.hpIrqStat, Reg.hpCnt3] s t ∧ sameMem s t ∧ t.units = { s.units with hp := t.hp, flt := t.flt }) ∧
  (∀ tag s o, s.safe → s.hp.out.find? (fun o => o.dest == 0x3F && o.tag == tag && !o.queued) = some o →
    let stat := fun a => match o.got.find? fun g => g.1 == a with | some g => g.2.toNat | none => 0x0A
    let all := (List.range o.rowLen).map fun i => stat (i + 1)
    let st := (all.find? fun x => x != 0).getD 0
    Completes (.rtoExpiry 0x3F tag) s fun t =>
      t.hp.queue = s.hp.queue ++ [⟨replyPacket 1 o.opcode.toNat o.tag st (all.map fun x => BitVec.ofNat 8 x), 0x3F, o.tag, true⟩] ∧
      (st = 0x0A → t.flag Reg.hpIrqStat 7 = true) ∧ (st ≠ 0x0A → regsBut [] s t) ∧
      regsBut [Reg.hpIrqStat, Reg.hpCnt3] s t ∧ sameMem s t ∧ t.units = { s.units with hp := t.hp }) ∧
  (∀ dest tag s, s.hp.out.find? (fun o => o.dest == dest && o.tag == tag && !o.queued) = none ∨ dest.toNat < 2 →
    exec (.rtoExpiry dest tag) s = .next s)

/-- A frame that arrives is taken in sequence only: one whose LEN does not suit its TYPE is counted and NAKed, one that was accepted before
is acknowledged again, one behind a gap is NAKed, and none of these changes anything else. A frame for another node goes out on the opposite
port as it is, and so does every frame for an addressed node while this one has no address; a token frame after its WIN is abandoned with
LINK_GIVEUP, and a frame that no port leads to is MISROUTEd (R142, R144, R146, R151 to R153, R155, R157). The SEQSYNC of an abandoned frame, and that one
which has not started is abandoned as one that has, is the model's reading, log entries 55 and 56. -/
def Obligations.FramesAreTakenInOrder : Prop :=
  ∀ p f s, s.safe → ∀ x ∈ ([(.pkt p f, 1), (.tokA p f, 2), (.tokB p f, 3), (.enumOffer p f, 4), (.enumReply p f, 4), (.endReply p f, 4),
      (.overflowReply p f, 4), (.event p f, 9)] : List (Instr × BitVec 4)),
    let q := s.port p
    let back := (q.rxExp - f.seq).toNat
    let a := s.link.addr.toNat
    let d := f.dst.toNat
    let onward := a = 0 ∨ (match p with | .up => a < d ∧ d ≤ 32 | .dn => 1 ≤ d ∧ d < a)
    let late := (x.2 = 2 ∨ x.2 = 3) ∧ winPassed s f.win = true ∧ (s.port p.opposite).up = true
    (q.up = false → exec x.1 s = .next s) ∧
    (q.up = true → goodLen x.2 f.payload.length = false → Completes x.1 s fun t =>
      t.units = (s.nakked p 4).units ∧ t.fld Reg.rlCrcCnt 31 0 = min (s.fld Reg.rlCrcCnt 31 0 + 1) 0xFFFFFFFF ∧
        regsBut [Reg.rlCrcCnt] s t ∧ sameMem s t) ∧
    (q.up = true → goodLen x.2 f.payload.length = true → 1 ≤ back → back ≤ 64 →
      exec x.1 s = .next (s.withPort p { q with osets := insertOset ⟨0x30, [q.rxExp - 1, 0, 0, 0, 0]⟩ q.osets })) ∧
    (q.up = true → goodLen x.2 f.payload.length = true → 64 < back → exec x.1 s = .next (s.nakked p 3)) ∧
    (InSequence p x.2 f s → d ≠ 0 → d ≠ a → onward → ¬late → Completes x.1 s fun t =>
      (t.port p).rxExp = q.rxExp + 1 ∧
        ((s.port p.opposite).up = true → ∃ g ∈ (t.port p.opposite).replay ++ (t.port p.opposite).waiting,
          g.typ = x.2 ∧ g.dst = f.dst ∧ g.src = f.src ∧ g.aux = f.aux ∧ g.win = f.win ∧ g.payload = f.payload) ∧
        t.units = { s.units with link := t.link } ∧ regsBut [] s t ∧ sameMem s t) ∧
    (InSequence p x.2 f s → d ≠ 0 → d ≠ a → onward → late → Completes x.1 s fun t =>
      (t.port p).rxExp = q.rxExp + 1 ∧ t.flag Reg.rlFlags 6 = true ∧
        ⟨0x32, [(s.port p.opposite).txSeq, 1, 0, 0, 0]⟩ ∈ (t.port p.opposite).osets ∧
        (s.romOnly = false → ∃ y ∈ t.flt.conds, y.code = 0x0303 ∧ y.sev = 1) ∧
        t.stg = s.stg ∧ t.tick = s.tick ∧ t.pwr = s.pwr ∧ t.xe = s.xe ∧ sameMem s t) ∧
    (InSequence p x.2 f s → d ≠ 0 → d ≠ a → ¬onward → (p = .up → d ≠ 0x3F) → Completes x.1 s fun t =>
      (t.port p).rxExp = q.rxExp + 1 ∧ t.flag Reg.rlFlags 7 = true ∧ t.units = { s.units with link := t.link } ∧
        regsBut [Reg.rlFlags, Reg.rlCnt3] s t ∧ sameMem s t)

/-- A PKT frame for this node: a member runs the row of the request that UP carries, also of a broadcast, which it repeats on DN, and takes
none from DN. The head puts the reply that a frame carries into its queue, enters it into its broadcast, which is answered when every
address has replied, or sets LATE_REPLY when no such request is outstanding (R28, R144, R221, R223, R225, R226). -/
def Obligations.PktCarriesRequestsAndReplies : Prop :=
  (∀ f s c,
    let len := field f.payload 4 2
    let bytes := f.payload.take (8 + len)
    let op := field bytes 2 1
    let req := fun b : Bool =>
      ({ path := .row, bcast := b, tag := BitVec.ofNat 8 (field bytes 3 1), payload := (bytes.drop 6).take len } : Req)
    InSequence .up 1 f s → s.answers = true → s.isHead = false → field f.payload 0 1 = 0xA5 → len ≤ 4096 → bytes.length = 8 + len →
    field bytes (6 + len) 2 = (crc16 ((bytes.drop 1).take (5 + len))).toNat →
    (f.dst = s.link.addr ∨ f.dst = 0 → f.dst ≠ 0x3F → rowOf op (req false) = some c →
      ∃ t u, exec (.pkt .up f) s = .next t ∧ exec c (s.accepted .up f) = .next u ∧ t.units = { u.units with link := t.link } ∧
        t.regs = u.regs ∧ t.mem = u.mem) ∧
    (f.dst = 0x3F → s.link.addr ≠ 0 → s.link.addr ≠ 0x3F → rowOf op (req true) = some c →
      ∃ t u, exec (.pkt .up f) s = .next t ∧ exec c (s.accepted .up f) = .next u ∧ t.units = { u.units with link := t.link } ∧
        t.regs = u.regs ∧ t.mem = u.mem ∧
        ((u.port .dn).up = true → ∃ g ∈ (t.port .dn).replay ++ (t.port .dn).waiting,
          g.typ = 1 ∧ g.dst = 0x3F ∧ g.src = f.src ∧ g.payload = f.payload))) ∧
  (∀ f s, InSequence .dn 1 f s → f.dst = s.link.addr ∨ f.dst = 0 → s.isHead = false → field f.payload 0 1 = 0xA5 →
    Completes (.pkt .dn f) s fun t =>
      (t.port .dn).rxExp = (s.port .dn).rxExp + 1 ∧ t.units = { s.units with link := t.link } ∧ regsBut [] s t ∧ sameMem s t) ∧
  (∀ p f s, s.safe →
    let bytes := f.payload.take (9 + field f.payload 5 2)
    let tag := BitVec.ofNat 8 (field bytes 3 1)
    let due := fun (o : OutReq) (d : BitVec 6) => o.dest == d && o.tag == tag && !o.queued
    InSequence p 1 f s → f.dst = s.link.addr → f.src ≠ 0x3F → s.isHead = true → field f.payload 0 1 = 0x5A →
    Completes (.pkt p f) s fun t =>
      ((∃ o ∈ s.hp.out, due o f.src = true) → (∀ o ∈ s.hp.out, due o 0x3F = false) →
        t.hp.queue = s.hp.queue ++ [⟨bytes, f.src, tag, true⟩] ∧ regsBut [] s t) ∧
      ((∀ o ∈ s.hp.out, due o f.src = false ∧ due o 0x3F = false) →
        t.hp = s.hp ∧ t.flag Reg.hpIrqStat 8 = true ∧ regsBut [Reg.hpIrqStat, Reg.hpCnt3] s t) ∧
      ((∀ o ∈ s.hp.out, due o f.src = false) → ∀ o, s.hp.out.filter (fun o => due o 0x3F) = [o] →
        (∀ g ∈ o.got, g.1 ≠ f.src.toNat) →
        let got := o.got ++ [(f.src.toNat, BitVec.ofNat 8 (field bytes 4 1))]
        let whole := ∀ i < o.rowLen, ∃ g ∈ got, g.1 = i + 1
        let stat := fun a => match got.find? fun g => g.1 == a with | some g => g.2.toNat | none => 0x0A
        let all := (List.range o.rowLen).map fun i => stat (i + 1)
        let st := (all.find? fun x => x != 0).getD 0
        (whole → t.hp.queue = s.hp.queue ++ [⟨replyPacket 1 o.opcode.toNat tag st (all.map fun x => BitVec.ofNat 8 x), 0x3F, tag, true⟩] ∧
          (st ≠ 0x0A → regsBut [] s t) ∧ (st = 0x0A → t.flag Reg.hpIrqStat 7 = true ∧ regsBut [Reg.hpIrqStat, Reg.hpCnt3] s t)) ∧
        (¬whole → t.hp.queue = s.hp.queue ∧ t.hp.out = s.hp.out.map (fun x => if due x 0x3F = true then { x with got := got } else x) ∧
          regsBut [] s t)) ∧
      onlyPorts s t ∧ sameMem s t)

/-- An EVENT frame at the head becomes a row record of SEV 0 with its sender's tick and DATA and the cause of IRQ_N, and acts on its code:
0x0101 sets ROW_LEN, 0x0001 from a node with an address a bit of FLT_ROW. While the boot's RESET record is not written the row record waits
behind it, and an event that the newest record already holds adds a repeat to it. A TICK_STATE goes to the report and is not logged (R170,
R535, R536, R684, R688, R695, R696). -/
def Obligations.HeadTakesEvents : Prop :=
  ∀ p f s, s.safe →
    let code := BitVec.ofNat 16 (field f.payload 0 2)
    let tick := BitVec.ofNat 32 (field f.payload 4 4)
    let data := BitVec.ofNat 32 (field f.payload 8 4)
    let known := ∃ x, s.flt.log.getLast? = some x ∧ x.code = code ||| 0x8000 ∧ x.src = f.src.toNat ∧ x.tick = tick
    InSequence p 9 f s → f.dst = s.link.addr ∨ f.dst = 0 → s.isHead = true → s.romOnly = false →
    Completes (.event p f) s fun t =>
      (code ≠ 0x0201 →
        (s.bootRecordDue = true → t.flt.log = s.flt.log ∧
          t.flt.conds = s.flt.conds ++ [⟨code ||| 0x8000, 0, f.src.toNat, data, some tick⟩]) ∧
        (s.bootRecordDue = false → ¬known →
          ∃ x, t.flt.log.getLast? = some x ∧ x.code = code ||| 0x8000 ∧ x.sev = 0 ∧ x.src = f.src.toNat ∧ x.tick = tick ∧ x.data = data ∧
            x.seq = s.flt.seq ∧ x.repeats = 0) ∧
        (s.bootRecordDue = false → ∀ x, s.flt.log.getLast? = some x → known →
          t.flt.log = s.flt.log.dropLast ++ [{ x with repeats := min (x.repeats + 1) 255 }]) ∧
        t.flag Reg.hpIrqStat 2 = true ∧ (code = 0x0301 → t.flag Reg.hpIrqStat 5 = true) ∧
        (code = 0x0302 → t.flag Reg.hpIrqStat 6 = true) ∧
        (code = 0x0101 → t.link.rowLen = data.toNat) ∧ (code ≠ 0x0101 → t.link.rowLen = s.link.rowLen) ∧
        (code = 0x0102 → t.flag Reg.rlFlags 8 = true) ∧
        (∀ n < 32, t.flag Reg.fltRow n = if code = 0x0001 ∧ n + 1 = f.src.toNat then true else s.flag Reg.fltRow n)) ∧
      (code = 0x0201 → t.flt = s.flt ∧
        (tick = s.tick.num → s.reports = true → s.res.done = false → (∀ c, s.res.copy = some c → c.2.1 ≠ tick) →
          s.res.page0 ≠ some tick → s.res.page1 ≠ some tick →
          t.res = { s.res with states := s.res.states ++ [{ addr := f.src.toNat, tick := tick, data := data }] } ∧ regsBut [] s t)) ∧
      (t.port p).rxExp = (s.port p).rxExp + 1 ∧ t.stg = s.stg ∧ t.pwr = s.pwr ∧ t.tick = s.tick ∧ t.rfx = s.rfx

/-- Sixteen TRAIN sets on each lane, sixteen sent since the first of them and a lane skew of at most 16 symbol times bring a link up, with
SEQ 0 and a CREDIT set for each class; UP then sends sixteen PROBE sets, and DN the offer that waits for it, or where the row is up already
and JOIN_EN is 1 an offer and its EVENT (R165 to R167, R172, R174, R176, R181). A link that goes down loses its replay buffer, its halves
and the pairs that hold its credit units, and trains anew; UP_DOWN and DN_DOWN tell of it with their records (R168 to R170). That the frames waiting on it
go too, and that a late join on the head offers BASE 0, is the model's reading, log entry 83. -/
def Obligations.LinksComeUpAndGoDown : Prop :=
  (∀ p lane1 addr product skew s,
     let q := s.port p
     let c : Instr := .train p ⟨lane1, skew⟩ addr product
     let q' := { q with
       train0 := if lane1 then q.train0 else min 16 (q.train0 + 1)
       train1 := if lane1 then min 16 (q.train1 + 1) else q.train1
       trainTx := some (q.trainTx.getD 0), skew := skew, peerAddr := addr, peerProduct := product }
     let whole := q'.train0 = 16 ∧ q'.train1 = 16 ∧ q.trainTx = some 16 ∧ skew ≤ 16
     (s.portUsed p = false ∨ q.up = true → exec c s = .next s) ∧
     (s.portUsed p = true → q.up = false → ¬whole → exec c s = .next (s.withPort p q')) ∧
     (s.portUsed p = true → q.up = false → whole → Completes c s fun t =>
       (t.port p).up = true ∧ (t.port p).peerAddr = addr ∧ (t.port p).peerProduct = product ∧ (t.port p).rxExp = 0 ∧
       ⟨0x33, [0, 0, 0, 0, 0]⟩ ∈ (t.port p).osets ∧ ⟨0x33, [1, 0, 0, 0, 0]⟩ ∈ (t.port p).osets ∧
       (p = .up → (t.port p).replay = [] ∧ (t.port p).txSeq = 0 ∧ t.link.echoes = [] ∧
         (∀ i < 16, ⟨0x40, [BitVec.ofNat 8 i, 0, 0, 0, 0]⟩ ∈ (t.port p).osets)) ∧
       (p = .dn → ∀ n b, s.link.dnWait = some (n, b) →
         Sends .dn t 4 0 (enumPayload 0 n 0 0 b 0) ∧ t.link.dnWait = none ∧ regsBut [] s t) ∧
       (p = .dn → s.link.dnWait = none → s.link.rowUp = true → s.flag Reg.rlCtrl 8 = true → s.link.addr ≠ 0 →
         Sends .dn t 4 0 (enumPayload 0 (s.link.addr.toNat + 1) 0 0 (if s.isHead then 0 else s.fld Reg.tickHopDly 15 0 + 80) 0) ∧
         (s.isHead = false → Sends .up t 9 1 (eventPayload 0x0102 s.tick.num (s.link.addr.setWidth 32)))) ∧
       (p = .dn → s.link.dnWait = none → s.link.rowUp = false ∨ s.flag Reg.rlCtrl 8 = false ∨ s.link.addr = 0 →
         (t.port p).replay = [] ∧ regsBut [] s t) ∧
       t.port p.opposite = (if p = .dn then t.port .up else s.port .dn) ∧ t.stg = s.stg ∧ t.tick = s.tick ∧ t.pwr = s.pwr ∧ sameMem s t)) ∧
  ((∀ p s, (s.port p).up = false → exec (.linkDown p) s = .next s) ∧
   (∀ p s, s.safe → (s.port p).up = true → Completes (.linkDown p) s fun t =>
     (t.port p).up = false ∧ (t.port p).replay = [] ∧ (t.port p).train0 = 0 ∧ (t.port p).train1 = 0 ∧ (t.port p).rxExp = 0 ∧
     (t.port p).waiting = [] ∧ (t.port p).disabled = (s.port p).disabled ∧
     (∀ g ∈ (t.port p.opposite).waiting, g.holds ≠ some p) ∧ (∀ h ∈ t.link.halves, h.port ≠ p) ∧
     (∀ r ∈ t.xe.pairs, r.port ≠ p ∨ r.units = 0) ∧
     (p = .up → s.isHead = false → t.flag Reg.rlFlags 2 = true ∧
       (s.romOnly = false → ∃ x ∈ t.flt.conds, x.code = 0x0302 ∧ x.sev = 2) ∧ regsBut [Reg.rlFlags, Reg.rlCnt1] s t) ∧
     (p = .up → s.isHead = true → regsBut [] s t) ∧
     (p = .dn → s.link.rowUp = true → t.flag Reg.rlFlags 3 = true ∧
       (s.romOnly = false → ∃ x ∈ t.flt.conds, x.code = 0x0301 ∧ x.sev = 3)) ∧
     (p = .dn → s.link.rowUp = false → regsBut [] s t) ∧
     t.link.addr = s.link.addr ∧ t.link.rowUp = s.link.rowUp ∧ t.stg = s.stg ∧ t.tick = s.tick ∧ t.pwr = s.pwr ∧ sameMem s t))

/-- An ACK frees the frame that it names and every earlier one, the named one abandoned or not. A NAK, and the missing of an ACK, send the
named frame and every later one again but those that were resent three times or whose WIN has passed: these are abandoned with LINK_GIVEUP,
and a SEQSYNC goes before each frame that follows a gap (R152, R154 to R157), behind the waiting sets that go before it (R136, R187). Token frames whose
WIN has passed leave the replay buffer and the waiting frames, and no other frame does; LINK_GIVEUP and a SEQSYNC tell of it (R155 to R157). Which SEQ and
COUNT a SEQSYNC carries, and that a frame which has not started is abandoned as well, is the model's reading, log entries 55 and 56. -/
def Obligations.ReplayBufferIsRuled : Prop :=
  (let resent := fun (c : Instr) (p : Port) (seq : Byte) (s u : State) => Completes c s fun t =>
     let q := u.port p
     let late := fun f : TxFrame => decide ((f.seq - seq).toNat < 128)
     let gone := fun f : TxFrame => decide (3 ≤ f.resends) || ((f.typ == 2 || f.typ == 3) && winPassed s f.win)
     let before := q.replay.filter fun f => !late f
     let again := ((q.replay.filter late).filter fun f => !gone f).map fun f => { f with resends := f.resends + 1 }
     let items := resendItems seq q.txSeq again
     let first := fun o : OSet => items.any (fun i => match i with | .set _ => true | _ => false) &&
       decide (o.typ ∈ ([0x20, 0x21, 0x31, 0x30, 0x32] : List Byte))
     let out := q.sent ++ (q.osets.filter first).map WireItem.set ++ items
     (before ++ again) <+: (t.port p).replay ∧ out <+: (t.port p).sent ∧
     t.fld Reg.rlRetryCnt 31 0 = min (s.fld Reg.rlRetryCnt 31 0 + again.length) 0xFFFFFFFF ∧
     ((∀ f ∈ q.replay, late f = true → gone f = false) →
       t.units = (u.withPort p { q with replay := before ++ again, sent := out, osets := q.osets.filter fun o => !first o }).units ∧
         regsBut [Reg.rlRetryCnt] s t) ∧
     ((∃ f ∈ q.replay, late f = true ∧ gone f = true) →
       t.flag Reg.rlFlags 6 = true ∧ (s.romOnly = false → ∃ x ∈ t.flt.conds, x.code = 0x0303 ∧ x.sev = 1)) ∧
     t.stg = s.stg ∧ t.tick = s.tick ∧ t.pwr = s.pwr ∧ sameMem s t
   (∀ p seq s, let u := s.broken p
     exec (.ack p seq) s = .next (if ((u.port p).txSeq - 1 - seq).toNat < 128 then
       u.withPort p { u.port p with replay := (u.port p).replay.filter fun f => decide (128 ≤ (seq - f.seq).toNat) } else u)) ∧
   (∀ p seq reason s, 128 ≤ ((s.port p).txSeq - 1 - seq).toNat ∨ (∀ f ∈ (s.port p).replay, 128 ≤ (f.seq - seq).toNat) →
     exec (.nak p seq reason) s = .next (s.broken p)) ∧
   (∀ p seq reason s, s.safe → ((s.port p).txSeq - 1 - seq).toNat < 128 → (∃ f ∈ (s.port p).replay, (f.seq - seq).toNat < 128) →
     resent (.nak p seq reason) p seq s (s.broken p)) ∧
   (∀ p s, (s.port p).replay = [] → exec (.ackTimeout p) s = .next s) ∧
   (∀ p s f rest, s.safe → (s.port p).replay = f :: rest → resent (.ackTimeout p) p f.seq s s)) ∧
  (∀ p s, s.safe →
     let q := s.port p
     let past := fun f : TxFrame => (f.typ == 2 || f.typ == 3) && winPassed s f.win
     let count := (q.replay.filter past ++ q.waiting.filter past).length
     let next := (((q.replay.dropWhile fun f => !past f).find? fun f => !past f).map fun f => f.seq).getD q.txSeq
     Completes (.winExpiry p) s fun t =>
       (q.replay.filter fun f => !past f) <+: (t.port p).replay ∧
       (∀ f ∈ q.waiting, past f = false → f ∈ (t.port p).waiting) ∧ (∀ f ∈ (t.port p).waiting, f ∈ q.waiting → past f = false) ∧
       ((q.replay ++ q.waiting).any past = false →
         (t.port p).replay = q.replay ∧ (t.port p).waiting = q.waiting ∧ t.units = { s.units with link := t.link } ∧ regsBut [] s t) ∧
       ((q.replay ++ q.waiting).any past = true →
         t.flag Reg.rlFlags 6 = true ∧ (s.romOnly = false → ∃ x ∈ t.flt.conds, x.code = 0x0303 ∧ x.sev = 1) ∧
         (q.up = true → ⟨0x32, [next, BitVec.ofNat 8 count, 0, 0, 0]⟩ ∈ (t.port p).osets)) ∧
       t.stg = s.stg ∧ t.tick = s.tick ∧ t.pwr = s.pwr ∧ sameMem s t)

/-- SEQSYNC sets the expected SEQ, CREDIT the released count of a class, PROBE on DN is answered by an ECHO set, sixteen ECHO sets give
RL_LINK_DLY, and SKP does nothing; at a port without a link each but SKP breaks the runs of TRAIN sets. The symbols of an ordered set do what its row
does, those of a good frame what the frame's row does, after a set that cuts into it. Sets that are unknown or fail on both lanes are counted, a bad frame is counted and NAKed at most once in 4 µs for one SEQ and stays
expected, one that ends in EDB is discarded, and sixteen symbol errors in 1 µs take the link down (R131, R133 to R135, R137, R138, R142, R143,
R153, R156, R162, R163, R165, R168, R172). A waiting frame leaves as soon as its port holds credit for it, but a token frame after its WIN is
abandoned (R149, R155, R163). Which test of a frame comes first, and what a lost ECHO leaves of RL_LINK_DLY, is the model's choice, log entries 97 and 98;
so are the disparity at which a lane is first heard and the copy of a bad frame, log entries 96 and 57, and the SEQSYNC of an abandoned frame, log entries
55 and 56. -/
def Obligations.OrderedSetsAndBadFramesAct : Prop :=
  ((∀ p next count s, exec (.seqsync p next count) s =
     .next (if (s.port p).up = true then s.withPort p { s.port p with rxExp := next } else s.broken p)) ∧
   (∀ p c n s, exec (.credit p c n) s =
     .next (if (s.port p).up = true then
       s.withPort p (if c = true then { s.port p with txRel1 := n } else { s.port p with txRel0 := n }) else s.broken p)) ∧
   (∀ p index s, exec (.probe p index) s =
     .next (if p = .dn ∧ s.link.dnPort.up = true then
       s.withPort .dn { s.link.dnPort with osets := insertOset ⟨0x41, [index, 0, 0, 0, 0]⟩ s.link.dnPort.osets } else s.broken p)) ∧
   (∀ index trip s, s.safe → Completes (.echo index trip) s fun t =>
     t.link.echoes = (if s.link.upPort.up = true ∧ s.link.echoes.length < 16 then s.link.echoes ++ [trip] else s.link.echoes) ∧
     (s.link.upPort.up = true → s.link.echoes.length = 15 →
       t.fld Reg.rlLinkDly 15 0 = (2 * ((s.link.echoes ++ [trip]).sum - 8192) + 256) / 512 % 65536 ∧ regsBut [Reg.rlLinkDly] s t) ∧
     (s.link.upPort.up = false ∨ s.link.echoes.length ≠ 15 → regsBut [] s t) ∧
     t.units = { s.units with link := { (s.broken .up).link with echoes := t.link.echoes } } ∧ sameMem s t) ∧
   (∀ p s, exec (.skp p) s = .next s) ∧
   (∀ p typ s, s.safe → Completes (.unknownOrderedSet p typ) s fun t =>
     t.fld Reg.rlOsCnt 31 0 = (if s.portUsed p = true then min (s.fld Reg.rlOsCnt 31 0 + 1) 0xFFFFFFFF else s.fld Reg.rlOsCnt 31 0) ∧
     t.units = (s.broken p).units ∧ regsBut [Reg.rlOsCnt] s t ∧ sameMem s t) ∧
   (∀ p s, (s.port p).up = true → Completes (.creditRefresh p) s fun t =>
     let n0 := (s.port p).rxRel0.toNat
     let n1 := (s.port p).rxRel1.toNat
     let sets := insertOset ⟨0x33, [0, BitVec.ofNat 8 n0, BitVec.ofNat 8 (n0 / 256), 0, 0]⟩ (s.port p).osets
     t = s.withPort p { s.port p with osets := insertOset ⟨0x33, [1, BitVec.ofNat 8 n1, BitVec.ofNat 8 (n1 / 256), 0, 0]⟩ sets }) ∧
   (∀ p s, exec (.skpInterval p) s =
     .next (if s.portUsed p = true then s.withPort p { s.port p with osets := insertOset ⟨0x1C, []⟩ (s.port p).osets } else s))) ∧
  (let errors := fun (p : Port) (l : Lanes) (s : State) => symbolErrors ((s.port p).hear l)
   let few := fun (p : Port) (l : Lanes) (s u : State) => (u.errorsWith p (errors p l s)).length < 16
   let heard := fun (p : Port) (l : Lanes) (s u : State) => u.withHeard p l (errors p l s)
   (∀ p l s, s.portUsed p = false → exec (.orderedSetDiscard ⟨p, l⟩) s = .next s) ∧
   (∀ p l s, s.safe → s.portUsed p = true → receivedSet ((s.port p).hear l) = none → few p l s s →
     Completes (.orderedSetDiscard ⟨p, l⟩) s fun t =>
       t.fld Reg.rlOsCnt 31 0 = min (s.fld Reg.rlOsCnt 31 0 + 1) 0xFFFFFFFF ∧ t.units = (heard p l s (s.broken p)).units ∧
       regsBut [Reg.rlOsCnt] s t ∧ sameMem s t) ∧
   (∀ p l s o c, s.portUsed p = true → (s.port p).up = true → receivedSet ((s.port p).hear l) = some o → setRow p o = some c →
     ∃ u, exec c s = .next u ∧ (few p l s u → exec (.orderedSetDiscard ⟨p, l⟩) s = .next (heard p l s u))) ∧
   (∀ p l s a b, s.portUsed p = true → (s.port p).up = false → laneSet ((s.port p).hear l).lane0 = some ⟨0x10, a⟩ →
     laneSet ((s.port p).hear l).lane1 = some ⟨0x10, b⟩ →
     let train := fun (lane1 : Bool) (d : List Byte) => Instr.train p ⟨lane1, (s.port p).skew⟩ ((d.getD 1 0).setWidth 6) (d.getD 2 0)
     ∃ u v, exec (train false a) s = .next u ∧ exec (train true b) u = .next v ∧
       (few p l s v → exec (.orderedSetDiscard ⟨p, l⟩) s = .next (heard p l s v))) ∧
   (∀ p l s, s.portUsed p = true → (s.port p).up = true → receivedSet ((s.port p).hear l) = none → ¬few p l s s →
     Completes (.orderedSetDiscard ⟨p, l⟩) s fun t => (t.port p).up = false) ∧
   (∀ p l s, (s.port p).up = false → exec (.badFrame p l) s = .next s ∧ exec (.edbFrame ⟨p, l⟩) s = .next s) ∧
   (∀ p l s typ f c, (s.port p).up = true → ((s.port p).hear l).cut.sets = [] → judgeFrame ((s.port p).hear l).cut.frame = .good typ f →
     frameRow p typ f = some c →
     ∃ u, exec c s = .next u ∧ (few p l s u →
       exec (.badFrame p l) s = .next (heard p l s u) ∧ exec (.edbFrame ⟨p, l⟩) s = .next (heard p l s u))) ∧
   (∀ p l s typ f c x o d, (s.port p).up = true → ((s.port p).hear l).cut.sets = [x] → receivedSet x = some o → setRow p o = some d →
     judgeFrame ((s.port p).hear l).cut.frame = .good typ f → frameRow p typ f = some c →
     ∃ u v, exec d s = .next u ∧ exec c u = .next v ∧ (few p l s v →
       exec (.badFrame p l) s = .next (heard p l s v) ∧ exec (.edbFrame ⟨p, l⟩) s = .next (heard p l s v))) ∧
   (∀ p l s reason bytes, s.safe → (s.port p).up = true → ((s.port p).hear l).cut.sets = [] →
     judgeFrame ((s.port p).hear l).cut.frame = .bad reason bytes → few p l s s →
     ∀ c ∈ ([.badFrame p l, .edbFrame ⟨p, l⟩] : List Instr), Completes c s fun t =>
       t.fld Reg.rlCrcCnt 31 0 = min (s.fld Reg.rlCrcCnt 31 0 + 1) 0xFFFFFFFF ∧
       t.port p = (heard p l s (s.nakked p reason)).port p ∧
       t.port p.opposite = { s.port p.opposite with sent := (t.port p.opposite).sent } ∧
       t.units = { s.units with link := { s.link with upPort := t.port .up, dnPort := t.port .dn } } ∧
       regsBut [Reg.rlCrcCnt] s t ∧ sameMem s t) ∧
   (∀ p l s bytes, s.safe → (s.port p).up = true → ((s.port p).hear l).cut.sets = [] →
     judgeFrame ((s.port p).hear l).cut.frame = .void bytes → few p l s s →
     ∀ c ∈ ([.badFrame p l, .edbFrame ⟨p, l⟩] : List Instr), Completes c s fun t =>
       t.port p = (heard p l s s).port p ∧
       t.port p.opposite = { s.port p.opposite with sent := (t.port p.opposite).sent } ∧
       t.units = { s.units with link := { s.link with upPort := t.port .up, dnPort := t.port .dn } } ∧ regsBut [] s t ∧ sameMem s t)) ∧
  (let gone := fun (s : State) (f : TxFrame) => 3 ≤ f.resends ∨ ((f.typ = 2 ∨ f.typ = 3) ∧ winPassed s f.win = true)
   (∀ p s, (s.port p).waiting = [] → exec (.storedFrameForward p) s = .next s) ∧
   (∀ p s f rest, (s.port p).waiting = f :: rest → ¬gone s f → (s.port p).canStart f.typ f.payload.length = false →
     exec (.storedFrameForward p) s = .next s) ∧
   (∀ p s f rest, (s.port p).waiting = f :: rest → ¬gone s f → (s.port p).canStart f.typ f.payload.length = true →
     Completes (.storedFrameForward p) s fun t =>
       let g := { f with seq := (s.port p).txSeq, holds := none }
       (t.port p).waiting = rest ∧ (t.port p).replay = (s.port p).replay ++ [g] ∧ (t.port p).sent = (s.port p).sent ++ [.frame g] ∧
       (t.port p).txSeq = (s.port p).txSeq + 1 ∧ t.units = { s.units with link := t.link } ∧ regsBut [] s t ∧ sameMem s t) ∧
   (∀ p s f rest, s.safe → (s.port p).waiting = f :: rest → gone s f → (s.port p).up = true → Completes (.storedFrameForward p) s fun t =>
     (∀ g ∈ rest, g ∈ (t.port p).waiting) ∧ ⟨0x32, [(s.port p).txSeq, 1, 0, 0, 0]⟩ ∈ (t.port p).osets ∧
     t.flag Reg.rlFlags 6 = true ∧ (s.romOnly = false → ∃ x ∈ t.flt.conds, x.code = 0x0303 ∧ x.sev = 1) ∧
     t.stg = s.stg ∧ t.tick = s.tick ∧ t.pwr = s.pwr ∧ sameMem s t))

/-- A member takes the address that UP offers: TICK_HOP_DLY becomes BASE and its own link delay, it replies to the head and offers the next
address with 80 ns more, at once or when its DN link comes up. The offer of 33 overflows the row; an offer from DN does nothing (R28, R174
to R178, R180). -/
def Obligations.MembersTakeAddresses : Prop :=
  (∀ f s, s.safe →
    let next := field f.payload 1 1
    let d := field f.payload 4 2 + s.fld Reg.rlLinkDly 15 0
    InSequence .up 4 f s → f.dst = 0 → s.isHead = false → next ≤ 32 →
    Completes (.enumOffer .up f) s fun t =>
      t.link.addr = BitVec.ofNat 6 next ∧ t.fld Reg.tickHopDly 15 0 = d % 65536 ∧ t.link.rowUp = true ∧
      (s.link.addr ≠ 0 → s.link.addr.toNat ≠ next → t.flag Reg.rlFlags 9 = true) ∧
      Sends .up t 4 1 (enumPayload 1 next (enumFlags t) s.product (d % 65536) s.fuse.serial) ∧
      (s.link.dnPort.up = true → Sends .dn t 4 0 (enumPayload 0 (next + 1) 0 0 (d + 80) 0) ∧ t.link.dnWait = none) ∧
      (s.link.dnPort.up = false → t.link.dnWait = some (next + 1, d + 80)) ∧
      (t.port .up).rxExp = (s.port .up).rxExp + 1 ∧ t.stg = s.stg ∧ t.tick = s.tick ∧ t.pwr = s.pwr ∧ sameMem s t) ∧
  (∀ f s, InSequence .dn 4 f s → f.dst = 0 → Completes (.enumOffer .dn f) s fun t =>
    t.link = { s.link with dnPort := t.link.dnPort } ∧ t.link.dnPort.rxExp = s.link.dnPort.rxExp + 1 ∧
      t.units = { s.units with link := t.link } ∧ regsBut [] s t ∧ sameMem s t) ∧
  (∀ f s, s.safe → InSequence .up 4 f s → f.dst = 0 → s.isHead = false → field f.payload 1 1 = 33 →
    Completes (.enumOffer .up f) s fun t =>
      t.link.addr = 0 ∧ t.flag Reg.rlFlags 0 = true ∧ t.link.dnPort.disabled = true ∧ t.link.dnPort.up = false ∧
      Sends .up t 4 1 (enumPayload 3 0 (enumFlags s) s.product (s.fld Reg.tickHopDly 15 0) s.fuse.serial) ∧
      (s.romOnly = false → ∃ x, t.flt.conds = s.flt.conds ++ [x] ∧ x.code = 0x0305 ∧ x.sev = 2) ∧
      regsBut [Reg.rlFlags, Reg.rlCnt0] s t ∧ t.stg = s.stg ∧ t.tick = s.tick ∧ t.pwr = s.pwr ∧ sameMem s t) ∧
  (∀ s, s.isHead = false → s.link.dnWait ≠ none → s.link.dnPort.up = false → Completes .dnWaitExpiry s fun t =>
    t.link.dnWait = none ∧ regsBut [] s t ∧ sameMem s t ∧ t.units = { s.units with link := t.link } ∧
    Sends .up t 4 1 (enumPayload 2 s.link.addr.toNat (enumFlags s) s.product (s.fld Reg.tickHopDly 15 0) s.fuse.serial)) ∧
  (∀ s, s.link.dnWait = none ∨ s.link.dnPort.up = true → exec .dnWaitExpiry s = .next s)

/-- ENUMERATE (0x03) restarts enumeration on the head: address 1, ROW_LEN 1, an offer of address 2. Each reply raises ROW_LEN; END, OVERFLOW
and the timeouts end it, set ROW_UP and answer the request with the row table (R173, R174, R178, R179). That the timeout ends an enumeration without any
reply too, and that every request which waits is answered at the end, is the model's choice, log entries 99 and 53. -/
def Obligations.HeadEnumerates : Prop :=
  let ended := fun (c : Instr) (s : State) (full : Bool) => Completes c s fun t =>
    t.link.enumBusy = false ∧ t.link.rowUp = true ∧ t.link.dnWait = none ∧ t.link.enumReqs = [] ∧
    t.link.overflow = (s.link.overflow || full) ∧ t.link.rowLen = s.link.rowLen ∧ t.link.enumRows = s.link.enumRows ∧
    (∀ r, s.link.enumReqs = [r] → (∃ e ∈ s.hp.window r.path, e.tag = r.tag) → Answered 0x03 r t 0x00 (enumTable t)) ∧
    onlyPorts s t ∧ (s.link.enumReqs.all (fun r => !r.bcast) = true → regsBut [Reg.pwrBootTime] s t) ∧ sameMem s t
  (∀ r s, Fresh 0x03 r s →
    let good := s.isHead = true ∧ s.tick.sched = false ∧ r.payload = []
    Completes (.enumerate r) s fun t =>
      (s.isHead = false ∨ s.tick.sched = true → Answered 0x03 r t 0x09 [] ∧ onlyPorts s t ∧ regsBut [] s t) ∧
      (s.isHead = true → s.tick.sched = false → r.payload ≠ [] → Answered 0x03 r t 0x04 [] ∧ onlyPorts s t ∧ regsBut [] s t) ∧
      (good → t.link.addr = 1 ∧ t.link.enumBusy = true ∧ t.link.rowLen = 1 ∧ t.link.enumRows = [] ∧ t.link.overflow = false ∧
        t.link.enumReqs = s.link.enumReqs ++ [r] ∧ (∃ e ∈ t.hp.window r.path, e.tag = r.tag ∧ e.reply = none) ∧
        (s.link.dnPort.up = true → Sends .dn t 4 0 (enumPayload 0 2 0 0 0 0) ∧ t.link.dnWait = none) ∧
        (s.link.dnPort.up = false → t.link.dnWait = some (2, 0))) ∧
      t.stg = s.stg ∧ t.tick = s.tick ∧ t.pwr = s.pwr ∧ sameMem s t) ∧
  (∀ p f s, s.safe → InSequence p 4 f s → f.dst = s.link.addr ∨ f.dst = 0 → s.isHead = true →
    let a := field f.payload 1 1
    Completes (.enumReply p f) s fun t =>
      t.link.rowLen = max s.link.rowLen a ∧
      (∃ x ∈ t.link.enumRows, x.addr = a ∧ x.product = BitVec.ofNat 8 (field f.payload 3 1) ∧ x.flags = BitVec.ofNat 8 (field f.payload 2 1) ∧
        x.ns = field f.payload 4 2) ∧
      (if s.link.enumBusy = true then regsBut [] s t else t.flag Reg.rlFlags 8 = true ∧ regsBut [Reg.rlFlags, Reg.rlCnt4] s t) ∧
      onlyPorts s t ∧ sameMem s t) ∧
  (∀ p f s, s.safe → InSequence p 4 f s → f.dst = s.link.addr ∨ f.dst = 0 → s.isHead = true → s.link.enumBusy = true →
    ended (.endReply p f) s false ∧ ended (.overflowReply p f) s true) ∧
  (∀ s, s.safe → s.isHead = true → s.link.enumBusy = true → ended .enumEndTimeout s false ∧
    (s.link.dnWait ≠ none → s.link.dnPort.up = false → ended .dnWaitExpiry s false)) ∧
  (∀ s, s.isHead = false ∨ s.link.enumBusy = false → exec .enumEndTimeout s = .next s)

/-- Halves of a token pair wait for each other, keyed by source and number; a whole pair goes to the Exchange Engine. A half that comes
after its WIN is LATE_DISCARDed, and one that stays alone is PAIR_DROPped (R196 to R198). What the Exchange Engine does with a pair that
its command awaits stands in O54. A half with a broadcast DST that comes up the row is taken and passed on (R144). -/
def Obligations.TokenHalvesPair : Prop :=
  (∀ p f s isA, s.safe →
    let c : Instr := if isA = true then .tokA p f else .tokB p f
    let units := creditUnits f.payload.length
    let other := s.link.halves.find? fun h => h.isA != isA && h.src == f.src && h.pair == f.aux
    let copied := ∃ x ∈ (s.port p.opposite).waiting, x.dst = 0x3F ∧ x.src = f.src ∧ x.aux = f.aux
    InSequence p (if isA = true then 2 else 3) f s → f.dst = s.link.addr ∨ f.dst = 0 →
    Completes c s fun t =>
      (t.port p).rxExp = (s.port p).rxExp + 1 ∧
      (winPassed s f.win = true → t.flag Reg.rlFlags 5 = true ∧ t.link.halves = s.link.halves ∧ t.xe = s.xe ∧
        (¬copied → (t.port p).rxRel1 = (s.port p).rxRel1 + BitVec.ofNat 16 units) ∧ regsBut [Reg.rlFlags, Reg.rlCnt2] s t) ∧
      (winPassed s f.win = false → other = none →
        t.link.halves = s.link.halves ++
          [{ isA := isA, src := f.src, pair := f.aux, win := f.win, payload := f.payload, port := p, units := units }] ∧
        t.xe = s.xe ∧ (t.port p).rxRel1 = (s.port p).rxRel1 ∧ regsBut [] s t) ∧
      (winPassed s f.win = false → ∀ h, other = some h → s.xe.inbound = none →
        (∀ x, x ∈ t.link.halves ↔ x ∈ s.link.halves ∧ ¬(x.src = f.src ∧ x.pair = f.aux)) ∧
        (∃ x, t.xe = { s.xe with pairs := s.xe.pairs ++ [x] } ∧ x.src = f.src ∧ x.pair = f.aux ∧
          x.a = (if isA = true then f.payload else h.payload) ∧ x.b = (if isA = true then h.payload else f.payload)) ∧ regsBut [] s t) ∧
      (winPassed s f.win = true ∨ other = none ∨ s.xe.inbound = none →
        t.units = { s.units with link := t.link, xe := t.xe } ∧ sameMem s t)) ∧
  (∀ p f s isA, s.safe →
    let c : Instr := if isA = true then .tokA p f else .tokB p f
    InSequence p (if isA = true then 2 else 3) f s → s.link.addr ≠ 0 → p = .up → f.dst = 0x3F → s.link.addr.toNat ≤ 32 →
    winPassed s f.win = false → s.link.halves.find? (fun h => h.isA != isA && h.src == f.src && h.pair == f.aux) = none →
    Completes c s fun t =>
      let units := creditUnits f.payload.length
      t.link.halves = s.link.halves ++
        [{ isA := isA, src := f.src, pair := f.aux, win := f.win, payload := f.payload, port := p, units := units }] ∧
      Sends .dn t (if isA = true then 2 else 3) f.dst f.payload ∧ t.xe = s.xe ∧ sameMem s t) ∧
  (∀ src pair s h, s.safe → s.link.halves.find? (fun h => h.src == src && h.pair == pair) = some h →
    Completes (.pairDrop src pair) s fun t =>
      t.flag Reg.rlFlags 4 = true ∧ (∀ x, x ∈ t.link.halves ↔ x ∈ s.link.halves ∧ ¬(x.src = src ∧ x.pair = pair)) ∧
      ((∀ x ∈ (s.port h.port.opposite).waiting, ¬(x.dst = 0x3F ∧ x.src = src ∧ x.aux = pair)) →
        (t.port h.port).rxRel1 = (s.port h.port).rxRel1 + BitVec.ofNat 16 h.units) ∧
      t.units = { s.units with link := t.link } ∧ regsBut [Reg.rlFlags, Reg.rlCnt2] s t ∧ sameMem s t) ∧
  (∀ src pair s, s.link.halves.find? (fun h => h.src == src && h.pair == pair) = none → exec (.pairDrop src pair) s = .next s)

/-- A TICK set that reaches a member is repeated on DN with its lateness added to CORR, a free value (log entry 9), and announces the
member's edge once it has an address (R48, R186, R188). A HALT set that is new is repeated on the other port, recorded in RFX_LAST, and sets
or clears the source's echo hold (R192, R638). That a member without an address repeats TICK sets too, and that RFX_LAST is written for a release too, is
the model's reading, log entries 49 and 54. -/
def Obligations.SetsPassAlongTheRow : Prop :=
  (∀ num corr s, s.isHead = true ∨ s.repeats = false ∨ s.link.upPort.up = false → exec (.tickSet num corr) s = .next (s.broken .up)) ∧
  (∀ num corr s, s.isHead = false → s.repeats = true → s.link.upPort.up = true → Completes (.tickSet num corr) s fun t =>
    t.tick = (if s.keeperUp = true ∧ s.link.addr ≠ 0 ∧ s.freeRun = false then { s.tick with announced := some num } else s.tick) ∧
    (s.link.dnPort.up = true → ∃ c : Byte, corr.toNat ≤ c.toNat ∧ c.toNat ≤ corr.toNat + 8 ∧
      t.link.dnPort = { s.link.dnPort with osets := insertOset ⟨0x20, wordBytes num ++ [c]⟩ s.link.dnPort.osets }) ∧
    t.units = { s.units with tick := t.tick, link := { s.link with dnPort := t.link.dnPort } } ∧ regsBut [] s t ∧ sameMem s t) ∧
  (∀ p src release mask hseq s,
    (s.port p).up = false ∨ (∃ e ∈ s.link.hseqRx, e.1 = src ∧ e.2.1 = hseq ∧ s.now - e.2.2 ≤ 100000) →
    exec (.haltSet p src release mask hseq) s = .next (s.broken p)) ∧
  (∀ p src release mask hseq s, s.safe → (s.port p).up = true →
    (∀ e ∈ s.link.hseqRx, ¬(e.1 = src ∧ e.2.1 = hseq ∧ s.now - e.2.2 ≤ 100000)) →
    Completes (.haltSet p src release mask hseq) s fun t =>
      (src, hseq, s.now) ∈ t.link.hseqRx ∧
      ((s.port p.opposite).up = true →
        ⟨0x21, [src.setWidth 8, if release then 1 else 0, mask.setWidth 8, hseq, 0]⟩ ∈ (t.port p.opposite).osets) ∧
      (src = s.link.addr → regsBut [] s t) ∧
      (src ≠ s.link.addr →
        t.fld Reg.rfxLast 29 24 = src.toNat ∧ t.flag Reg.rfxLast 16 = release ∧ t.fld Reg.rfxLast 11 8 = mask.toNat ∧
          t.fld Reg.rfxLast 7 0 = hseq.toNat ∧
        (release = false → t.flag Reg.rfxFlags 5 = true) ∧
        (∀ n < 32, t.flag Reg.rfxEchoSrc n =
          if n + 1 = src.toNat ∧ release = true then false
          else if n + 1 = src.toNat ∧ s.flag Reg.rfxCtrl 0 = true then true else s.flag Reg.rfxEchoSrc n) ∧
        regsBut [Reg.rfxLast, Reg.rfxFlags, Reg.rfxCnt2, Reg.hpIrqStat, Reg.hpCnt1, Reg.rfxEchoSrc] s t) ∧
      t.units = { s.units with link := t.link } ∧ sameMem s t)

/-- Writes to the registers that act: EN in TICK_CTRL, CLR in EN_CTRL, the triggers of ADC_SWTRIG, GO in WM_PROG and CNT_CLR in FLT_CTRL do
what their rows do; DSP_SCRATCH is fixed while an image is loaded and TR_BASE while tracing runs; PM_GPIO_OUT drives its balls at once, and
TDAC_CTRL its output, which comparators judge (R50, R51, R283, R377, R399, R576, R599, R602, R632, R647, R663, R665). CNT_CLR clears every
saturating count but for what the present cycle's events add (R682). Balls: what the surroundings do moves the level of an input, or the
pull does, and an edge that EDGE selects sets EDGEn; every hand-over ends at once, and comparators whose pins it held start with a filtered
state loaded from their raw outputs, where a tripped one is a trip; a TRACE_SYNC pulse ends (R254, R256, R605, R631, R660, R664, R665, R674).
Model's choices: an edge is a change of the level that results at the ball (log entry 42), a comparator that does not run is untripped and
starts when the hand-over of its pin ends (log entry 22), and which level a ball or a buffer has that nothing holds is free (log entry 95). -/
def Obligations.SpecialRegistersAndPinsAct : Prop :=
  ((∀ (v : Word) s, exec (.registerWrite 0x08010000 v) s = exec (if bit v 0 = true then .tickEnSet else .tickEnClear) (s.staged Reg.tickCtrl v)) ∧
   (∀ (v : Word) s, exec (.registerWrite (BitVec.ofNat 32 Reg.enCtrl) v) s =
     if bit v 8 = true then exec .clr (s.staged Reg.enCtrl v) else .next (s.staged Reg.enCtrl v)) ∧
   (∀ s, exec .clr s = .next { s with units := { s.units with en := { s.en with clear := true } } }) ∧
   (∀ (v : Word) s, ∃ x y z,
     (if bit v 1 = true then exec (.swInjectedTrigger .a) s else .next s) = .next x ∧
     (if bit v 9 = true then exec (.swInjectedTrigger .b) x else .next x) = .next y ∧
     (if bit v 0 = true then exec (.swRegularTrigger .a) y else .next y) = .next z ∧
     exec (.registerWrite (BitVec.ofNat 32 Reg.adcSwtrig) v) s = if bit v 8 = true then exec (.swRegularTrigger .b) z else .next z) ∧
   (∀ (v : Word) s, exec (.registerWrite (BitVec.ofNat 32 Reg.wmProg) v) s = if bit v 0 = true then exec .go s else .next s) ∧
   (∀ (v : Word) s, exec (.registerWrite (BitVec.ofNat 32 Reg.fltCtrl) v) s =
     if bit v 31 = true then exec .cntClr (s.staged Reg.fltCtrl v) else .next (s.staged Reg.fltCtrl v)) ∧
   (∀ s, s.safe → Completes .cntClr s fun t =>
     (∀ a ∈ saturatingRegs, (∀ x ∈ s.cycle.counts, x.reg ≠ a) → t.stored a = 0) ∧
     (∀ x ∈ s.cycle.counts, x.reg ∈ saturatingRegs → x.lo ≤ x.hi → x.hi < 32 →
       (∀ i, x.lo ≤ i → i ≤ x.hi → (heldMask x.reg).getLsbD i = true) →
       (∀ y ∈ s.cycle.counts, y.reg = x.reg → y = x ∨ y.hi < x.lo ∨ x.hi < y.lo) →
       t.fld x.reg x.hi x.lo = min x.n (2 ^ (x.hi + 1 - x.lo) - 1)) ∧
     regsBut saturatingRegs s t ∧ t.units = s.units ∧ sameMem s t) ∧
   (∀ (v : Word) s, s.safe → Completes (.registerWrite (BitVec.ofNat 32 Reg.dspScratch) v) s fun t =>
     t.stored Reg.dspScratch = (if s.eng.image = none then v &&& 0x00FF00FF else s.stored Reg.dspScratch) ∧
       regsBut [Reg.dspScratch] s t ∧ t.units = s.units ∧ sameMem s t) ∧
   (∀ (v : Word) s, s.safe → Completes (.registerWrite (BitVec.ofNat 32 Reg.trBase) v) s fun t =>
     t.stored Reg.trBase = (if s.flag Reg.trCtrl 0 = false then v &&& 0xFFFC0000 else s.stored Reg.trBase) ∧
       regsBut [Reg.trBase] s t ∧ t.units = s.units ∧ sameMem s t) ∧
   (∀ (v : Word) s, s.safe → Completes (.registerWrite (BitVec.ofNat 32 Reg.tdacCtrl) v) s fun t =>
     t.stored Reg.tdacCtrl = v &&& directMask Reg.tdacCtrl ∧ rejudged s t ∧
       t.units = { s.units with rfx := { s.rfx with raw := t.rfx.raw }, pins := { s.pins with ainBit := t.pins.ainBit } } ∧ regsBut [Reg.tdacCtrl] s t ∧ sameMem s t) ∧
   (∀ (v : Word) s, s.safe → Completes (.registerWrite (BitVec.ofNat 32 Reg.pmGpioOut) v) s fun t =>
     t.stored Reg.pmGpioOut = v &&& 0xFF ∧
       (∀ n < 8, t.flag Reg.pmGpioFlags n = (s.flag Reg.pmGpioFlags n ||
         ((s.gpioLevel n != t.gpioLevel n) && decide (s.fld (Reg.pmGpioCfg0 + 4 * n) 3 0 ≤ 1) && (s.handHold n).isNone &&
           s.flag (Reg.pmGpioCfg0 + 4 * n) (if t.gpioLevel n = true then 10 else 11)))) ∧
       regsBut [Reg.pmGpioOut, Reg.pmGpioFlags, Reg.pmCnt0, Reg.pmCnt0 + 4, Reg.pmCnt0 + 8, Reg.pmCnt0 + 12] s t ∧ t.units = s.units ∧
       sameMem s t)) ∧
  ((∀ (n : Fin 8) drive s, s.safe → Completes (.gpioEdge n drive) s fun t =>
     let cfg := Reg.pmGpioCfg0 + 4 * n.val
     let seen := s.fld cfg 3 0 ≤ 1 ∧ s.handHold n.val = none ∧ s.gpioLevel n.val ≠ t.gpioLevel n.val ∧
       s.flag cfg (if t.gpioLevel n.val = true then 10 else 11) = true
     t.units = { s.units with pins := { s.pins with gpio := t.pins.gpio, driven := t.pins.driven } } ∧
     t.pins.gpio.getLsbD n.val = drive.getD (s.pins.gpio.getLsbD n.val) ∧ t.pins.driven.getLsbD n.val = drive.isSome ∧
     (∀ m < 8, m ≠ n.val → t.pins.gpio.getLsbD m = s.pins.gpio.getLsbD m ∧ t.pins.driven.getLsbD m = s.pins.driven.getLsbD m) ∧
     (s.fld cfg 3 0 = 0 → s.handHold n.val = none →
       (∀ b, drive = some b → t.gpioLevel n.val = b) ∧ (drive = none → s.fld cfg 9 8 = 1 → t.gpioLevel n.val = false) ∧
         (drive = none → s.fld cfg 9 8 = 2 → t.gpioLevel n.val = true)) ∧
     (seen → t.flag Reg.pmGpioFlags n.val = true) ∧ (¬seen → regsBut [] s t) ∧
     regsBut [Reg.pmGpioFlags, Reg.pmCnt0 + 4 * (n.val / 2)] s t ∧ sameMem s t) ∧
   (∀ s, s.safe → Completes .handOverEnd s fun t =>
     let u : State := { s with units := { s.units with pins := { s.pins with hand := [] } } }
     t.pins = { s.pins with hand := [], ainBit := t.pins.ainBit } ∧ rejudged s t ∧
     (∀ n < 4, u.cmpRuns n = true → s.cmpRuns n = false →
       t.rfx.filt.getLsbD n = u.rawNow n ∧ (u.rawNow n = true → t.flag Reg.rfxFlags n = true)) ∧
     (∀ n < 4, s.cmpRuns n = true ∨ u.cmpRuns n = false → t.rfx.filt.getLsbD n = s.rfx.filt.getLsbD n) ∧
     ((∀ n < 4, s.cmpRuns n = true ∨ u.cmpRuns n = false ∨ u.rawNow n = false) →
       t.units = { u.units with rfx := { s.rfx with raw := t.rfx.raw, filt := t.rfx.filt }, pins := t.pins } ∧ regsBut [] s t) ∧
     t.stg = s.stg ∧ t.pwr = s.pwr ∧ t.hp.out = s.hp.out ∧ sameMem s t) ∧
   (∀ (n : Fin 8) s, exec (.traceSyncPulseEnd n) s =
     .next { s with units := { s.units with pins := { s.pins with pulse := false } } }))

/-- A regular trigger of an enabled converter starts its sequence, is held while an injected one runs, and is dropped with REG_DROP while a
regular one runs or is held. An injected trigger starts at once, or is dropped with INJ_DROP: it suspends a regular sequence, holds one that
started in the same ADC clock, and ends a cross check for both converters. Triggers of one kind in one ADC clock are one (R599, R602 to
R605, R608, Table 15-2). A comparator that trips triggers the injected sequences whose CMP field names it (R602, R633). A tick edge and a
pass end trigger the regular sequences with their edge bit set, which begin with the cross entry where the cross check is on and both start
in that ADC clock; where they do not, CROSS_SKIP is set, unless both hold their trigger (R599, R606, R607; the last is log entry 41). -/
def Obligations.TriggersStartSequences : Prop :=
  let regular := fun (cmd : Instr) (c : Conv) (s : State) =>
    let k := { s.conv c with regClk := some s.adcClock }
    let on := s.convRuns c = true ∧ s.flag (regCtrl c) 31 = true ∧ (s.conv c).regClk ≠ some s.adcClock
    let busy := k.reg ≠ none ∨ k.held ≠ none
    (¬on → exec cmd s = .next s) ∧
    (on → busy → Completes cmd s fun t =>
      t.flag Reg.adcFlags (match c with | .a => 2 | .b => 3) = true ∧ t.units = (s.withConv c k).units ∧
        regsBut [Reg.adcFlags, Reg.adcCnt1] s t ∧ sameMem s t) ∧
    (on → ¬busy → k.inj ≠ none → exec cmd s = .next (s.withConv c { k with held := some false })) ∧
    (on → ¬busy → k.inj = none → exec cmd s = .next (s.withConv c (if regularEntries s.stored c = [] then k else { k with
      reg := some { idx := 0, cross := false, crossVoid := false, tick := s.tick.num, clk := some s.adcClock }
      held := none, refnr := !s.adc.refReady })))
  (∀ c s, s.safe → if s.flag (regCtrl c) 27 = true then regular (.swRegularTrigger c) c s else exec (.swRegularTrigger c) s = .next s) ∧
  (∀ c s, s.safe →
    let due := if s.freeRun = true then s.tick.pass = true else s.tick.edges = true ∧ s.offset < s.period - guardOf s.period
    let timer := s.flag (regCtrl c) 28 = true ∧ s.fld (Reg.adcATmr + convBase c) 19 0 ≠ 0
    (due ∧ timer → regular (.adcTimerTrigger c) c s) ∧ (¬(due ∧ timer) → exec (.adcTimerTrigger c) s = .next s)) ∧
  (∀ c s, s.safe →
    let k := { s.conv c with injClk := some s.adcClock }
    let on := s.flag (regCtrl c) 27 = true ∧ s.convRuns c = true ∧ s.flag (injCtrl c) 31 = true ∧ injectedEntries s.stored c ≠ [] ∧
      (s.conv c).injClk ≠ some s.adcClock
    let starts := { k with inj := some 0, refnr := !s.adc.refReady }
    let other := s.conv (otherConv c)
    let omitted := fun (r : RegRun) (t : State) => t.adc.crossA = none ∧ t.adc.crossB = none ∧ t.flag Reg.adcFlags 8 = true ∧
      t.fld Reg.adcCrossStat 1 0 = 2 ∧ t.fld Reg.adcCrossStat 31 16 = r.tick.toNat % 65536
    (¬on → exec (.swInjectedTrigger c) s = .next s) ∧
    (on → k.inj ≠ none → Completes (.swInjectedTrigger c) s fun t =>
      t.flag Reg.adcFlags (match c with | .a => 4 | .b => 5) = true ∧ t.units = (s.withConv c k).units ∧
        regsBut [Reg.adcFlags, Reg.adcCnt2] s t ∧ sameMem s t) ∧
    (on → k.inj = none → (∀ r, k.reg = some r → r.clk ≠ some s.adcClock ∧ r.cross = false) →
      exec (.swInjectedTrigger c) s = .next (s.withConv c starts)) ∧
    (on → k.inj = none → ∀ r, k.reg = some r →
      (r.clk = some s.adcClock → r.cross = false →
        exec (.swInjectedTrigger c) s = .next (s.withConv c { starts with reg := none, held := some false })) ∧
      (r.clk ≠ some s.adcClock → r.cross = true → r.crossVoid = true →
        exec (.swInjectedTrigger c) s = .next (s.withConv c { starts with reg := some { r with cross := false, crossVoid := false } })) ∧
      (r.clk ≠ some s.adcClock → r.cross = true → r.crossVoid = false → Completes (.swInjectedTrigger c) s fun t =>
        t.conv c = { starts with reg := some { r with cross := false } } ∧
        t.conv (otherConv c) = { other with reg := other.reg.map fun x => if x.cross = true then { x with crossVoid := true } else x } ∧
        omitted r t) ∧
      (r.clk = some s.adcClock → r.cross = true → Completes (.swInjectedTrigger c) s fun t =>
        t.conv c = { starts with reg := none, held := some true } ∧
        t.conv (otherConv c) = { other with reg := other.reg.map fun x => { x with cross := false, crossVoid := false } } ∧
        omitted r t))) ∧
  (∀ (n : Fin 4) c s, s.safe → s.cmpRuns n.val = true → s.rfx.raw.getLsbD n.val = true → s.rfx.filt.getLsbD n.val = false →
    Completes (.cmpFilterExpiry n) s fun t =>
      let k := s.conv c
      let on := (s.fld (injCtrl c) 3 0).testBit n.val = true ∧ s.convRuns c = true ∧ s.flag (injCtrl c) 31 = true ∧
        injectedEntries s.stored c ≠ [] ∧ k.injClk ≠ some s.adcClock
      let plain := ∀ d r, (s.conv d).reg = some r → r.cross = false
      (on → k.inj = none → (t.conv c).inj = some 0 ∧ (t.conv c).refnr = !s.adc.refReady) ∧
      (on → k.inj ≠ none → (t.conv c).inj = k.inj ∧ t.flag Reg.adcFlags (match c with | .a => 4 | .b => 5) = true) ∧
      (on → k.inj ≠ none → plain → t.conv c = { k with injClk := some s.adcClock }) ∧
      (on → k.inj = none → plain → (∀ r, k.reg = some r → r.clk ≠ some s.adcClock) → (t.conv c).reg = k.reg ∧ (t.conv c).held = k.held) ∧
      (on → k.inj = none → plain → ∀ r, k.reg = some r → r.clk = some s.adcClock → (t.conv c).reg = none ∧ (t.conv c).held = some false) ∧
      (¬on → plain → t.conv c = k)) ∧
  (∀ sp s, s.safe →
    let edged := fun (n : Word) (t : State) =>
      let on := fun c => s.convRuns c = true ∧ s.flag (regCtrl c) 31 = true ∧ s.flag (regCtrl c) 29 = true
      let ready := fun c => on c ∧ (s.conv c).reg = none ∧ (s.conv c).held = none
      let both := s.crossOn = true ∧ ∀ c, ready c ∧ (s.conv c).inj = none
      let hold := s.crossOn = true ∧ ∀ c, ready c ∧ (s.conv c).inj ≠ none
      let begun := fun x : Bool => some ({ idx := 0, cross := x, crossVoid := false, tick := n, clk := some s.now } : RegRun)
      (∀ c, (t.conv c).inj = (s.conv c).inj ∧
        (¬on c → (t.conv c).reg = (s.conv c).reg ∧ (t.conv c).held = (s.conv c).held) ∧
        (on c → ¬ready c → t.flag Reg.adcFlags (match c with | .a => 2 | .b => 3) = true ∧
          (t.conv c).reg = (s.conv c).reg ∧ (t.conv c).held = (s.conv c).held) ∧
        (ready c → (s.conv c).inj ≠ none → (t.conv c).reg = none ∧ (t.conv c).held = some true) ∧
        (ready c → (s.conv c).inj = none → ¬both → (t.conv c).held = none ∧
          (t.conv c).reg = if regularEntries s.stored c = [] then none else begun false)) ∧
      (both → ∀ c, (t.conv c).reg = begun true) ∧
      (hold → t.adc.crossDue = some { tick := n, clk := none }) ∧
      (s.crossOn = true → ¬both → ¬hold → t.flag Reg.adcFlags 8 = true ∧ t.fld Reg.adcCrossStat 1 0 = 2 ∧
        t.fld Reg.adcCrossStat 31 16 = n.toNat % 65536)
    s.stg.pend = none → s.pwr.pend = none →
    (∀ n k, s.dueEdge = some (n, k) → s.pwr.level ≠ .keep → Completes (.tickEdge sp) s fun t => t.pwr.level ≠ .keep → edged n t) ∧
    (s.passOver = true → s.pwr.level ≠ .keep → Completes (.freeRunPassEnd sp) s fun t => t.pwr.level ≠ .keep → edged (s.tick.num + 1) t))

/-- A conversion's result is the data word of Table 15-3 with VALID set, corrected where calibration is in force; OVR tells of a word that
was not read. The sequence goes on with its next entry, both results of a cross check are compared, and a void one delivers nothing (R593,
R598, R608, R609, R612, R614, R644, R645). After the last injected entry a held sequence starts (R604). Model's choices: the code is
the ideal transfer of the channel's voltage within the figures of Table 19-8 where these cover the conversion, and else any (R588, R721 to
R723; log entry 94); two held sequences that start in one ADC clock run the cross entry, and it is omitted where they cannot (R607; log
entry 41); DIFF of an omitted check is free (log entry 9). -/
def Obligations.ConversionsDeliver : Prop :=
  let data := fun (c : Conv) => match c with | .a => Reg.adcAData | .b => Reg.adcBData
  let word := fun (c : Conv) (s t : State) (entry ch raw : Nat) (cross inj : Bool) =>
    let coeff := s.stored (Reg.adcACal + match c with | .a => 0 | .b => 4)
    let cal := s.flag Reg.adcCalEn (match c with | .a => 0 | .b => 1) && !(s.conv c).refnr
    t.flag (data c) 31 = true ∧ t.fld (data c) 28 25 = entry % 16 ∧ t.flag (data c) 24 = decide (c = .b) ∧ t.flag (data c) 23 = cross ∧
      t.flag (data c) 22 = cal ∧ t.flag (data c) 21 = (s.conv c).refnr ∧ t.flag (data c) 20 = inj ∧ t.fld (data c) 16 12 = ch % 32 ∧
      (cal = false → t.fld (data c) 11 0 = raw) ∧ (cal = true → t.fld (data c) 11 0 = correctedCode coeff raw) ∧
      (s.flag (data c) 31 = true → t.flag Reg.adcFlags (match c with | .a => 0 | .b => 1) = true)
  let kept := fun s : State => ∀ d, s.adc.crossDue = some d → d.clk = none ∧ s.adc.a.held = some true ∧ s.adc.b.held = some true
  let omitted := fun (d : CrossDue) (t : State) => t.adc.crossDue = none ∧ t.adc.crossA = none ∧ t.adc.crossB = none ∧
    t.flag Reg.adcFlags 8 = true ∧ t.fld Reg.adcCrossStat 1 0 = 2 ∧ t.fld Reg.adcCrossStat 31 16 = d.tick.toNat % 65536
  (∀ c src (s : State), s.convCode c src ≤ 4095 ∧
    ((s.conv c).refnr = false → s.covered (s.convChannel c) (s.convSmp c) src = true →
      let n := idealCode s.vref (s.channelVolt (s.convChannel c) src)
      let bound := 19 + (n + 49) / 50
      n ≤ s.convCode c src + bound ∧ s.convCode c src ≤ n + bound)) ∧
  (∀ c src s, (s.conv c).inj = none → (s.conv c).reg = none → exec (.conversionDone c src) s = .next s) ∧
  (∀ c src s i, s.safe → (s.conv c).inj = some i → s.flag Reg.mvCtrl (match c with | .a => 0 | .b => 1) = false →
    let es := injectedEntries s.stored c
    Completes (.conversionDone c src) s fun t =>
      word c s t i (es[i]?.getD (0, 0)).2 (s.convCode c src) false true ∧ (t.conv c).inj = (if i + 1 < es.length then some (i + 1) else none) ∧
      let o := s.conv (otherConv c)
      let begins := es.length ≤ i + 1 ∧ (s.conv c).reg = none ∧ (s.conv c).held ≠ none
      let begun := fun x : Bool => (t.conv c).held = none ∧
        (t.conv c).reg = some { idx := 0, cross := x, crossVoid := false, tick := s.tick.num, clk := none }
      let together := fun d : CrossDue => d.clk = some s.adcClock ∧ o.inj = none ∧ o.reg ≠ none
      (¬begins → (t.conv c).reg = (s.conv c).reg ∧ (t.conv c).held = (s.conv c).held ∧ t.adc.crossDue = s.adc.crossDue) ∧
      (begins → (∀ d, s.adc.crossDue = some d → ¬together d) → regularEntries s.stored c ≠ [] → begun false) ∧
      (begins → ∀ d, s.adc.crossDue = some d →
        (d.clk = none → t.adc.crossDue = some { d with clk := some s.adcClock }) ∧
        (together d → begun true ∧ t.conv (otherConv c) = { o with reg := o.reg.map fun x => { x with cross := true } } ∧
          t.adc.crossDue = none) ∧
        (d.clk ≠ none → ¬together d → omitted d t)) ∧
      (¬begins ∨ (∀ d, s.adc.crossDue = some d → d.clk = none) →
        t.conv (otherConv c) = o ∧ t.units = { s.units with adc := t.adc } ∧ regsBut [data c, Reg.adcFlags, Reg.adcCnt0] s t) ∧
      sameMem s t) ∧
  (∀ c src s r d, s.safe → (s.conv c).inj = none → (s.conv c).reg = some r → r.cross = false →
    s.flag Reg.mvCtrl (match c with | .a => 0 | .b => 1) = false → s.adc.crossDue = some d → ¬kept s →
    let es := regularEntries s.stored c
    Completes (.conversionDone c src) s fun t =>
      word c s t r.idx (es[r.idx]?.getD (0, 0)).2 (s.convCode c src) false false ∧ omitted d t ∧
      (t.conv c).reg = (if r.idx + 1 < es.length then some { r with idx := r.idx + 1 } else none) ∧
      t.conv (otherConv c) = s.conv (otherConv c) ∧ sameMem s t) ∧
  (∀ c src s r, s.safe → (s.conv c).inj = none → (s.conv c).reg = some r → r.cross = false → kept s →
    s.flag Reg.mvCtrl (match c with | .a => 0 | .b => 1) = false →
    let es := regularEntries s.stored c
    Completes (.conversionDone c src) s fun t =>
      word c s t r.idx (es[r.idx]?.getD (0, 0)).2 (s.convCode c src) false false ∧
      (t.conv c).reg = (if r.idx + 1 < es.length then some { r with idx := r.idx + 1 } else none) ∧
      t.conv (otherConv c) = s.conv (otherConv c) ∧ t.units = { s.units with adc := t.adc } ∧
      regsBut [data c, Reg.adcFlags, Reg.adcCnt0] s t ∧ sameMem s t) ∧
  (∀ c src s r y, s.safe → (s.conv c).inj = none → (s.conv c).reg = some r → r.cross = true → r.crossVoid = false → kept s →
    s.flag Reg.mvCtrl (match c with | .a => 0 | .b => 1) = false → (match c with | .a => s.adc.crossB | .b => s.adc.crossA) = some y →
    Completes (.conversionDone c src) s fun t =>
      let x := t.fld (data c) 11 0
      let d := max x (bits y 11 0) - min x (bits y 11 0)
      let result := if (s.conv c).refnr = true ∨ bit y 21 = true then 2 else if d ≤ s.fld Reg.adcCross 11 0 then 0 else 1
      word c s t 0 (s.fld Reg.adcCross 20 16) (s.convCode c src) true false ∧ t.fld Reg.adcCrossStat 1 0 = result ∧ t.fld Reg.adcCrossStat 15 4 = d ∧
      t.fld Reg.adcCrossStat 31 16 = r.tick.toNat % 65536 ∧
      (result = 1 → t.flag Reg.adcCflags 0 = true ∧ (s.romOnly = false → ∃ z ∈ t.flt.conds, z.code = 0x0B01 ∧ z.sev = 2) ∧
        (r.tick = s.tick.num → t.tick.untrusted = true)) ∧
      (result = 0 → t.stored Reg.adcCflags = s.stored Reg.adcCflags ∧ t.tick = s.tick) ∧
      (t.conv c).reg = some { r with cross := false, crossVoid := false } ∧ t.adc.crossA = none ∧ t.adc.crossB = none ∧ sameMem s t) ∧
  (∀ c src s r, s.safe → (s.conv c).inj = none → (s.conv c).reg = some r → r.cross = true → r.crossVoid = false → kept s →
    s.flag Reg.mvCtrl (match c with | .a => 0 | .b => 1) = false → (match c with | .a => s.adc.crossB | .b => s.adc.crossA) = none →
    Completes (.conversionDone c src) s fun t =>
      word c s t 0 (s.fld Reg.adcCross 20 16) (s.convCode c src) true false ∧
      (match c with | .a => t.adc.crossA | .b => t.adc.crossB) = some (t.stored (data c)) ∧
      (t.conv c).reg = some { r with cross := false, crossVoid := false } ∧
      t.units = { s.units with adc := t.adc } ∧ regsBut [data c, Reg.adcFlags, Reg.adcCnt0] s t ∧ sameMem s t) ∧
  (∀ c src s r, (s.conv c).inj = none → (s.conv c).reg = some r → r.cross = true → r.crossVoid = true → kept s →
    exec (.conversionDone c src) s = .next (s.withConv c { s.conv c with
      reg := some { r with cross := false, crossVoid := false }, refnr := !s.adc.refReady }))

/-- With the ADC mover on, a result, be it regular, injected or of a cross check, is appended to the live page with its shape word and VALID is
cleared, or PAGE_FULL is set; of two results of one ADC clock the one of ADC A stands first, and results that wait while the page closes are
appended at its end, in their order (R613, R616, R617, R619, R621). REF_READY follows the buffer, and a fall while REF_EN is 1 is REF_LOSS, which calibration steps note; comparators judge the
test DAC's output anew (R590 to R592, R647, R650). -/
def Obligations.MoverAndReferenceAct : Prop :=
  let data := fun (c : Conv) => match c with | .a => Reg.adcAData | .b => Reg.adcBData
  (∀ c src s, s.safe →
    ((s.conv c).inj ≠ none ∨ (s.conv c).inj = none ∧ ∃ r, (s.conv c).reg = some r ∧ (r.cross = true → r.crossVoid = false)) →
    s.flag Reg.mvCtrl (match c with | .a => 0 | .b => 1) = true →
    let base := (s.stored Reg.mvBase).toNat
    let shape := (s.stored Reg.mvShape).toNat
    let swap := c = .a ∧ ∃ x, s.adc.lastB = some (s.adcClock, x)
    let last := base + 4 * s.adc.live
    let placed := inOneRange base 8192 = true ∧ inOneRange shape 8 = true ∧ regionOf shape ≠ some .mram ∧
      (shape + 8 ≤ base ∨ base + 8192 ≤ shape)
    let copied := fun (w : Word) (t : State) => bit w 31 = true ∧ bits w 30 0 = t.fld (data c) 30 0
    let counted := fun t : State => t.adc.live = s.adc.live + 1 ∧ t.flag (data c) 31 = false ∧
      bits (t.rd32 shape) 15 0 = s.adc.live + 1 ∧ bits (t.rd32 shape) 31 16 = s.tick.num.toNat % 65536
    Completes (.conversionDone c src) s fun t =>
      (s.pagePowered = true → s.adc.closing = false → placed → s.adc.live < 1024 → ¬swap → counted t ∧ copied (t.rd32 last) t ∧
        ∀ a, (a < last ∨ last + 4 ≤ a) → (a < shape ∨ shape + 4 ≤ a) → t.rd8 a = s.rd8 a) ∧
      (s.pagePowered = true → s.adc.closing = false → placed → 1 ≤ s.adc.live → s.adc.live < 1024 → swap → counted t ∧
        t.rd32 last = s.rd32 (last - 4) ∧ copied (t.rd32 (last - 4)) t ∧
        ∀ a, (a < last - 4 ∨ last + 4 ≤ a) → (a < shape ∨ shape + 4 ≤ a) → t.rd8 a = s.rd8 a) ∧
      (s.pagePowered = true → s.adc.closing = false → 1024 ≤ s.adc.live → ¬swap → t.adc.live = s.adc.live ∧ t.adc.liveFull = true ∧
        t.flag Reg.adcFlags 7 = true ∧ t.flag (data c) 31 = true ∧ sameMem s t) ∧
      (s.pagePowered = true → s.adc.closing = false → placed → s.adc.live = 1024 → swap → t.adc.live = 1024 ∧ t.adc.liveFull = true ∧
        t.flag Reg.adcFlags 7 = true ∧ t.flag Reg.adcAData 31 = false ∧ t.flag Reg.adcBData 31 = true ∧ copied (t.rd32 (last - 4)) t ∧
        ∀ a, (a < last - 4 ∨ last ≤ a) → t.rd8 a = s.rd8 a) ∧
      (s.pagePowered = true → s.adc.closing = true → s.adc.waiting.length < 16 →
        t.adc.waiting = s.adc.waiting ++ [(s.adcClock, t.stored (data c))] ∧ t.flag (data c) 31 = true ∧ t.adc.live = s.adc.live ∧ sameMem s t) ∧
      (s.pagePowered = false → t.adc.waiting = s.adc.waiting ∧ t.flag (data c) 31 = true ∧ t.adc.live = s.adc.live ∧ sameMem s t) ∧
      (∀ r, (s.conv c).inj = none → (s.conv c).reg = some r → r.cross = false → s.adc.crossDue = none →
        t.units = { s.units with adc := t.adc } ∧ regsBut [Reg.adcAData, Reg.adcBData, Reg.adcFlags, Reg.adcCnt0, Reg.adcCnt3] s t) ∧
      ((s.conv c).inj ≠ none → s.adc.crossDue = none →
        t.units = { s.units with adc := t.adc } ∧ regsBut [Reg.adcAData, Reg.adcBData, Reg.adcFlags, Reg.adcCnt0, Reg.adcCnt3] s t)) ∧
  (∀ s, s.adc.closing = false → exec .moverCloseComplete s = .next s) ∧
  (∀ s, s.safe → s.adc.closing = true → Completes .moverCloseComplete s fun t =>
    t.adc.closing = false ∧ t.adc.waiting = [] ∧
    (s.pagePowered = true → s.adc.live ≤ 1024 → t.adc.live = min 1024 (s.adc.live + s.adc.waiting.length) ∧
      (1024 < s.adc.live + s.adc.waiting.length → t.flag Reg.adcFlags 7 = true)) ∧
    (let base := (s.stored Reg.mvBase).toNat
     let shape := (s.stored Reg.mvShape).toNat
     s.pagePowered = true → inOneRange base 8192 = true → inOneRange shape 8 = true → shape + 8 ≤ base ∨ base + 8192 ≤ shape →
     (s.adc.waiting.map fun e => e.1).Nodup → (∀ e ∈ s.adc.waiting, ∀ l, s.adc.lastB = some l → l.1 ≠ e.1) →
     ∀ i clk w, s.adc.waiting[i]? = some (clk, w) → s.adc.live + i < 1024 → t.rd32 (base + 4 * (s.adc.live + i)) = w) ∧
    (s.pagePowered = false → t.adc.live = s.adc.live ∧ sameMem s t) ∧
    t.units = { s.units with adc := t.adc } ∧ regsBut [Reg.adcAData, Reg.adcBData, Reg.adcFlags, Reg.adcCnt3] s t) ∧
  (∀ s, s.flag Reg.adcRef 0 = false ∨ s.pwr.level = .keep → exec .refReady s = .next s) ∧
  (∀ s, s.flag Reg.adcRef 0 = true → s.pwr.level ≠ .keep → Completes .refReady s fun t =>
    rejudged s t ∧ t = { s with units := { s.units with
      adc := { s.adc with refReady := true }, rfx := { s.rfx with raw := t.rfx.raw }, pins := { s.pins with ainBit := t.pins.ainBit } } }) ∧
  (∀ s, s.adc.refReady = false → exec .refLoss s = .next s) ∧
  (∀ s, s.safe → s.adc.refReady = true → Completes .refLoss s fun t =>
    t.adc = { s.adc with
      refReady := false
      a := { s.adc.a with cal := s.adc.a.cal.map fun j => { j with lost := true } }
      b := { s.adc.b with cal := s.adc.b.cal.map fun j => { j with lost := true } } } ∧
    rejudged s t ∧
    (s.flag Reg.adcRef 0 = true → t.flag Reg.adcFlags 6 = true ∧
      (s.romOnly = false → ∃ x, t.flt.conds = s.flt.conds ++ [x] ∧ x.code = 0x0B02 ∧ x.sev = 2 ∧ x.data = s.stored Reg.adcRef)) ∧
    (s.flag Reg.adcRef 0 = false → regsBut [] s t ∧ t.flt = s.flt) ∧
    t.units = { s.units with
      adc := t.adc, flt := t.flt, rfx := { s.rfx with raw := t.rfx.raw }, pins := { s.pins with ainBit := t.pins.ainBit } } ∧ regsBut [Reg.adcFlags, Reg.adcCnt3] s t ∧ sameMem s t)

/-- GO zeroes MAGIC of the standing model area and takes header and image from shared SRAM where they make a valid standing model, and
takes nothing where they do not (shared SRAM is 0x00000000 to 0x00FFFFFF, Table 0-4); WM_PROG_COMPLETE leaves the whole area written, or
WM_BAD with MAGIC still 0. A watch timer edge starts a watch frame in WATCH while no tick edges occur (R568, R569, R574, R576, R577). -/
def Obligations.StandingModelActs : Prop :=
  (∀ s, s.wm.job ≠ none → exec .go s = .next s) ∧
  (∀ s, s.safe → s.wm.job = none →
    let src := (s.stored Reg.wmProgSrc).toNat
    let size := (s.rd32 (src + 4)).toNat
    let load := (s.rd32 (src + 12)).toNat
    let out := (s.rd32 (src + 16)).toNat
    let image := s.rdBytes (src + 32) size
    let shared := fun a n : Nat => a + n ≤ 0x01000000
    Completes .go s fun t =>
      (∃ j, t.wm = { s.wm with job := some j } ∧
        (j.ok = true ↔ shared src 32 ∧ shared src (32 + size) ∧ s.rd32 src = 0x4D574B53 ∧ 64 ≤ size ∧ size ≤ 5242848 ∧
          load % 16 = 0 ∧ shared load size ∧ out % 16 = 0 ∧ shared out 16 ∧ (out + 16 ≤ load ∨ load + size ≤ out) ∧
          s.rd32 (src + 8) = crc32 image ∧ modelImageOk (withModel s load image) load size = true) ∧
        (j.ok = true → j.bytes = s.rdBytes src (32 + size)) ∧ (j.ok = false → j.bytes = [])) ∧
      t.rd32 0x04230000 = 0 ∧ (∀ a, a < 0x04230000 ∨ 0x04230004 ≤ a → t.rd8 a = s.rd8 a) ∧ t.units = { s.units with wm := t.wm } ∧
      regsBut [] s t) ∧
  (∀ v s, s.wm.job = none → exec (.wmProgComplete v) s = .next s) ∧
  (∀ v s j, s.safe → s.wm.job = some j → j.bytes.length ≤ 5242880 → Completes (.wmProgComplete v) s fun t =>
    t.wm = { s.wm with job := none } ∧
    (j.ok = true → v = true → t.rdBytes 0x04230000 j.bytes.length = j.bytes ∧ t.flt = s.flt ∧ regsBut [] s t) ∧
    (j.ok = false ∨ v = false → t.rd32 0x04230000 = s.rd32 0x04230000 ∧ t.flag Reg.pixFlags 4 = true ∧
      (s.romOnly = false → ∃ x, t.flt.conds = s.flt.conds ++ [x] ∧ x.code = 0x0A03 ∧ x.sev = 2)) ∧
    (∀ a, a < 0x04230000 ∨ 0x04230000 + j.bytes.length ≤ a → t.rd8 a = s.rd8 a) ∧
    t.units = { s.units with wm := t.wm, flt := t.flt } ∧ regsBut [Reg.pixFlags, Reg.pixCnt2] s t) ∧
  (∀ s, s.pwr.level ≠ .watch ∨ s.wm.valid = false ∨ s.wm.settings = false ∨ s.tick.edges = true → exec .watchTimerEdge s = .next s) ∧
  (∀ s, s.pwr.level = .watch → s.wm.valid = true → s.wm.settings = true → s.tick.edges = false → Completes .watchTimerEdge s fun t =>
    t.wm.frame = true ∧ t.tick.entries = List.replicate ((match s.wm.image with | some im => im.slots.length | none => 0)) .notDue ∧
    t.tick.guard = false ∧ t.tick.num = s.tick.num ∧ t.tick.edges = false ∧ (∀ e, t.runOf e = none) ∧ t.dsp.holdsWork = false ∧
    t.img.taken = false ∧ t.img.rows = [] ∧ t.stg = s.stg ∧ t.pwr = s.pwr)

/-- A tick edge and the end of a FREE_RUN pass carry out Table 2-4: the closing tick's work is aborted, a set that is due becomes live,
TICK_NUM takes the edge's number and TICK_OFFSET starts from 0, the TICK_OUT pulse starts, the Pruner's counts close, every fence counter
is 0, layer states and bins are empty, and the engines stand at entry 0; only a flywheeled or missed edge of TICK_IN counts in FLY_COUNT,
and a FREE_RUN that becomes live starts a pass where the schedule runs (R46, R66, R67, R69, R73, R75 to R78, R86, R87, R247, R331, R509,
R748). That no tick runs from an edge that makes FREE_RUN live while no schedule runs is the model's choice (log entry 87), and so is that
a pass end which makes tick mode live lets the schedule run on and clears RUNNING (log entry 89). So are the clearing of HELD by the START that
follows (log entry 24) and the TICK_OUT pulse at a pass end (log entry 112). -/
def Obligations.TickEdgeAdvances : Prop :=
  let own := fun k : EdgeKind => k = .flywheel ∨ k = .missed
  let due := fun (p : PendSet) (n : Word) => p.byAt = false ∨ p.tick = n
  let opened := fun (n : Word) (s t : State) =>
    t.tick.num = n ∧ t.tick.edgeAt = some s.now ∧ t.tick.announced = none ∧ t.tick.stopping = false ∧
    t.tick.tickOut = t.flag Reg.tickCtrl 3 ∧ t.tick.incomplete = false ∧ t.tick.lost = false ∧ t.tick.guard = false ∧
    (s.flag Reg.adcCross 31 = false → s.stg.pend = none → t.tick.untrusted = false) ∧
    (t.tick.pass = false → (∀ e, t.runOf e = none) ∧ t.dsp.holdsWork = false ∧ ∀ e ∈ t.tick.entries, e = .notDue) ∧
    (∀ i < 64, t.fence i = 0) ∧
    t.xe.layers = [] ∧ t.xe.bins = [] ∧ (t.pwr.level ≠ .keep → t.img.taken = false ∧ t.img.rows = []) ∧
    t.stored Reg.prKeptLast = BitVec.ofNat 32 (min s.qs.kept 0xFFFFFFFF) ∧ t.qs.kept = 0 ∧
    (s.working = true → s.tick.stopping = false →
      t.flag Reg.tickStat 0 = true ∧ t.stored Reg.tickOvrNum = s.tick.num ∧
        (s.romOnly = false → ∃ c ∈ t.flt.conds, c.code = 0x0101 ∧ c.sev = 1)) ∧
    (s.working = false ∨ s.tick.stopping = true →
      t.flag Reg.tickStat 0 = s.flag Reg.tickStat 0 ∧ t.stored Reg.tickOvrNum = s.stored Reg.tickOvrNum) ∧
    (∀ p, s.stg.pend = some p → due p n →
      t.stg = { s.stg with pend := none } ∧ t.stored Reg.stgLastTick = n ∧ t.flag Reg.nvmFlags 3 = true ∧
      (∀ e ∈ p.regs, e.1 ≠ Reg.stgUnlock → t.stored e.1 &&& stagedMask e.1 = e.2 &&& stagedMask e.1) ∧
      (∀ a, (∀ e ∈ p.regs, e.1 ≠ a) → t.stored a &&& stagedMask a = s.stored a &&& stagedMask a)) ∧
    ((∀ p, s.stg.pend = some p → ¬due p n) → t.stg = s.stg ∧ ∀ a, t.stored a &&& stagedMask a = s.stored a &&& stagedMask a) ∧
    (∀ l, s.pwr.pend = some l → s.pwr.pendReady = true → t.pwr.pend = none ∧ (t.pwr.level = l ∨ t.pwr.level = .keep)) ∧
    (s.stg.pend = none → s.pwr.pend = none → t.pwr.level = s.pwr.level → (∀ i < 16, s.flag (Reg.qsColCtrl0 + 4 * i) 31 = false) →
      s.fld Reg.mvCtrl 1 0 = 0 → s.adc.live = 0 → s.sm.valid = false → s.res.valid = false → s.flag Reg.trCtrl 0 = false → sameMem s t)
  (∀ sp s, s.dueEdge = none → exec (.tickEdge sp) s = .next s) ∧
  (∀ sp s n k, s.safe → banksOrdered s → s.dueEdge = some (n, k) → Completes (.tickEdge sp) s fun t =>
    opened n s t ∧ t.tick.edges = true ∧ t.tick.running = (!t.freeRun || t.tick.pass) ∧
    t.tick.flyCount = (if own k then min 16 (s.tick.flyCount + 1) else 0) ∧
    (t.tick.flywheel = true ↔ own k ∧ t.freeRun = false ∧ (k = .missed ∨ t.flag Reg.tickCtrl 2 = true)) ∧
    (t.tick.pass = true ↔ t.freeRun = true ∧ t.tick.sched = true ∧ t.pwr.level = .run) ∧
    (k = .missed → t.flag Reg.tickStat 4 = true ∧ ∃ c ∈ t.flt.conds, c.code = 0x0104 ∧ c.sev = 1) ∧
    (own k → s.tick.flyCount = 15 → t.tick.sched = false ∧ t.tick.held = true ∧ ∃ c ∈ t.flt.conds, c.code = 0x0103 ∧ c.sev = 2) ∧
    (k = .source → t.pwr.level = .run → (s.tick.startAt = some 0 ∨ s.tick.startAt = some n) →
      t.tick.sched = true ∧ t.tick.startAt = none ∧ t.tick.held = false) ∧
    (k = .source → t.pwr.level = .run → s.tick.startAt ≠ some 0 → s.tick.startAt ≠ some n → s.pwr.pend = none →
      t.tick.sched = s.tick.sched ∧ t.tick.startAt = s.tick.startAt) ∧
    (t.tick.sched = true → t.pwr.level = .run → t.tick.pass = false → ∀ im, t.eng.image = some im →
      t.tick.entries.length = im.slots.length)) ∧
  (∀ sp s, s.passOver = false → exec (.freeRunPassEnd sp) s = .next s) ∧
  (∀ sp s, s.safe → banksOrdered s → s.passOver = true → Completes (.freeRunPassEnd sp) s fun t =>
    opened (s.tick.num + 1) s t ∧
    (t.tick.pass = true → t.tick.sched = true ∧ t.tick.passAt = s.now) ∧
    (t.tick.pass = false → t.tick.running = false ∧ t.tick.edges = false ∧ t.tick.metered = false ∧ (t.freeRun = true → t.tick.sched = false)) ∧
    (s.tick.sched = true → t.freeRun = true → t.pwr.level = .run → (t.tick.pass = true ↔ t.flag Reg.tickCtrl 4 = true)))

/-- At the end of a metered tick the meters close, the account is debited, clipped and credited, and the grade of the new tick is the pin or
the best that the balance affords, but no better than the floor; TH_AVG closes, T_CRIT stops the schedule and enters KEEP, and the governor
counts in either case and marks a reversal within 64 ticks (R275, R278 to R283, R290, R291, R295 to R309). The samples of the open tick
build the averages; that a sensor's own average is rounded as the mean is the model's choice (log entry 90), and so are what the meters count (log entry 12) and
that the age of the floor's change grows at every edge (log entry 60). -/
def Obligations.EnergyAndHeat : Prop :=
  let clamp := fun b : Int => max (-2147483648) (min 2147483647 b)
  let closes := fun (s t : State) =>
    let avg := signed 16 (t.fld Reg.thAvg 15 0)
    let crit := 16 * Int.ofNat (t.fld Reg.thLimits 23 16)
    let high := 16 * Int.ofNat (t.fld Reg.thLimits 7 0)
    let mean := if s.en.maxCount = 0 then crit else roundDivInt s.en.maxSum s.en.maxCount
    let hot := if high ≤ avg then s.en.hot + 1 else 0
    let cool := if high ≤ avg then 0 else if avg ≤ high - 64 then s.en.cool + 1 else 0
    let floor := if crit ≤ avg then 3 else s.en.floor
    let up := 8 ≤ hot ∧ floor < 3
    let down := 32 ≤ cool ∧ 0 < floor
    t.fld Reg.thAvg 15 0 = unsigned 16 mean ∧ t.en.maxCount = 0 ∧ t.en.maxSum = 0 ∧
    (∀ i, (h : i < s.en.sens.length) → i < 6 → t.stored (Reg.thSens0 + 4 * i) =
      if s.en.sens[i].2 = 0 then 0
      else 0x80000000#32 ||| BitVec.ofNat 32 (unsigned 16 (roundDivInt s.en.sens[i].1 s.en.sens[i].2))) ∧
    (crit ≤ avg → t.flag Reg.enFlags 5 = true ∧ t.pwr.level = .keep ∧ t.en.hold = true ∧ t.tick.sched = false ∧
      t.tick.startAt = none ∧ (s.romOnly = false → ∃ c ∈ t.flt.conds, c.code = 0x0201 ∧ c.sev = 3)) ∧
    (avg < crit → t.en.hold = s.en.hold) ∧
    (t.flag Reg.enCtrl 0 = true → t.en.hot = s.en.hot ∧ t.en.cool = s.en.cool ∧ t.en.floor = floor) ∧
    (t.flag Reg.enCtrl 0 = false →
      t.en.hot = (if 8 ≤ hot then 0 else hot) ∧ t.en.cool = (if 32 ≤ cool then 0 else cool) ∧
      t.en.floor = (if up then floor + 1 else if down then floor - 1 else floor) ∧
      (∀ d n, s.en.change = some (d, n) → n < 64 → up ∨ down → d ≠ decide up → t.flag Reg.enFlags 4 = true) ∧
      t.en.change = (if up then some (true, 0) else if down then some (false, 0)
        else s.en.change.map fun c => (c.1, min 65 (c.2 + 1))))
  (∀ sp s n k, s.safe → s.dueEdge = some (n, k) → s.tick.edges = true → s.tick.metered = true → Completes (.tickEdge sp) s fun t =>
    let last := fun a => (t.stored a).toNat
    let spend := last Reg.enLastCore + last Reg.enLastMem + last Reg.enLastAna + last Reg.enLastIo
    let after := clamp ((if s.en.clear = true then 0 else s.en.bal) - Int.ofNat spend)
    let cap := 4 * Int.ofNat (t.fld Reg.enCarryMax 23 0)
    let est := fun g => 4 * Int.ofNat (t.fld (Reg.enEst0 + 4 * g) 23 0)
    t.stored Reg.enLastCore = BitVec.ofNat 32 ((s.en.resCore + (s.en.acc.core + sp.core)) / 250) ∧ t.en.resCore = (s.en.resCore + (s.en.acc.core + sp.core)) % 250 ∧
    t.stored Reg.enLastMem = BitVec.ofNat 32 ((s.en.resMem + (s.en.acc.mem + sp.mem)) / 250) ∧ t.en.resMem = (s.en.resMem + (s.en.acc.mem + sp.mem)) % 250 ∧
    t.stored Reg.enLastAna = BitVec.ofNat 32 ((s.en.resAna + (s.en.acc.ana + sp.ana)) / 250) ∧ t.en.resAna = (s.en.resAna + (s.en.acc.ana + sp.ana)) % 250 ∧
    t.stored Reg.enLastIo = BitVec.ofNat 32 ((s.en.resIo + (s.en.acc.io + sp.io)) / 250) ∧ t.en.resIo = (s.en.resIo + (s.en.acc.io + sp.io)) % 250 ∧
    t.en.acc = noSpend ∧ t.en.shown = 0 ∧ t.en.clear = false ∧ (after < 0 → t.flag Reg.enFlags 1 = true) ∧
    t.en.bal = (if t.pwr.level = .keep then after else clamp (min after cap + 4 * Int.ofNat (t.fld Reg.enBudget 23 0))) ∧
    (t.pwr.level ≠ .keep → ∀ im, t.eng.image = some im →
      if t.flag Reg.enCtrl 0 = true then t.en.cur = 0 ∧ (t.en.bal < est 0 → t.flag Reg.enFlags 2 = true)
      else ∃ g, t.en.cur = max g (min t.en.floor (im.ng - 1)) ∧ (s.en.pinValid = true → g = s.en.pin) ∧
        (s.en.pinValid = false → (g < im.ng ∧ est g ≤ t.en.bal ∧ ∀ j < g, t.en.bal < est j) ∨
          (g = im.ng - 1 ∧ t.flag Reg.enFlags 0 = true ∧ ∀ j < im.ng, t.en.bal < est j))) ∧
    closes s t) ∧
  (∀ s, s.pwr.level = .keep ∨ s.tick.edges = true → exec .thermalIntervalEnd s = .next s) ∧
  (∀ s, s.safe → s.pwr.level ≠ .keep → s.tick.edges = false → Completes .thermalIntervalEnd s fun t =>
    closes s t ∧ t.stg = s.stg ∧ t.hp = s.hp ∧ t.link = s.link ∧ t.rfx = { s.rfx with raw := t.rfx.raw } ∧ t.tick.num = s.tick.num) ∧
  (∀ temps s, s.pwr.level = .keep → exec (.thermalSample temps) s = .next s) ∧
  (∀ temps s, s.safe → s.pwr.level ≠ .keep → temps.length = 6 → Completes (.thermalSample temps) s fun t =>
    let present := fun i => s.fuse.isV64 = true ∨ i ≠ 4
    let valid := fun (i : Nat) (x : Int) => temps[i]? = some x ∧ present i ∧ -640 ≤ x ∧ x ≤ 2400
    ((∀ i x, ¬valid i x) → t.en = s.en) ∧
    (∀ i m, valid i m → (∀ j x, valid j x → x ≤ m) →
      t.en.maxSum = s.en.maxSum + m ∧ t.en.maxCount = s.en.maxCount + 1 ∧ t.en.bal = s.en.bal ∧ t.en.floor = s.en.floor) ∧
    (s.en.sens.length = 6 → ∀ i x sum n, valid i x → s.en.sens[i]? = some (sum, n) → t.en.sens[i]? = some (sum + x, n + 1)) ∧
    ((∃ i x, temps[i]? = some x ∧ present i ∧ ¬valid i x) → t.flag Reg.enFlags 3 = true) ∧
    ((∀ i x, temps[i]? = some x → present i → valid i x) → regsBut [] s t ∧ t.flt = s.flt) ∧
    t.units = { s.units with en := t.en, flt := t.flt } ∧ regsBut [Reg.enFlags, Reg.enCnt1] s t ∧ sameMem s t) ∧
  (∀ temps s, s.en.hold = false → exec (.thermHoldSample temps) s = .next s) ∧
  (∀ temps s, s.safe → s.en.hold = true → temps.length = 6 → Completes (.thermHoldSample temps) s fun t =>
    let valid := fun (i : Nat) (x : Int) => temps[i]? = some x ∧ (s.fuse.isV64 = true ∨ i ≠ 4) ∧ -640 ≤ x ∧ x ≤ 2400
    (t.en.hold = false ↔ (∃ i x, valid i x) ∧ ∀ i x, valid i x → x ≤ 16 * Int.ofNat (s.fld Reg.thLimits 7 0) - 64) ∧
    t.units = { s.units with en := { s.en with hold := t.en.hold }, flt := t.flt } ∧ regsBut [Reg.enFlags, Reg.enCnt1] s t ∧ sameMem s t)

/-- Where edges come from: EN starts them and clearing it leaves one more, also while the head waits for TICK_IN; the head launches a TICK set for an internal edge and for each
accepted TICK_IN edge, turns an early one away with TICK_EARLY, and flywheels when TICK_IN is lost; at the end of ticking work stops and a
COMMIT that is pending becomes live (R50 to R52, R82 to R85, R184, R747). Model's choices: the first edge of TICK_IN after EN rose is never
early (log entry 88), what else ends with ticking (log entry 46), the instant of TICK_LOST (log entry 50), a level change that is due takes
effect at the end of ticking (log entry 82), and no tick runs any more on a member that has lost its address (log entry 87). -/
def Obligations.TickSourcesAct : Prop :=
  let launched := fun (s t : State) =>
    t.tick.announced = some (s.tick.num + 1) ∧
    t.link = { s.link with dnPort := if s.link.dnPort.up = true then
        { s.link.dnPort with osets := insertOset ⟨0x20, wordBytes (s.tick.num + 1) ++ [0]⟩ s.link.dnPort.osets }
      else s.link.dnPort }
  let generating := fun s : State => s.isHead = true ∧ s.keeperUp = true ∧ s.freeRun = false ∧ (s.flag Reg.tickCtrl 0 = true ∨ s.tick.ending = .oneMore ∨ s.tick.ending = .lastAndMore)
  let srcIn := fun s : State => s.flag Reg.tickCtrl 2 = true
  (∀ s, s.safe → Completes .tickEnSet s fun t =>
    let rises := s.isHead = true ∧ s.flag Reg.tickCtrl 0 = false
    let anew := rises ∧ s.tick.ending ≠ .oneMore ∧ s.tick.ending ≠ .lastAndMore
    let edgeNow := anew ∧ ¬srcIn s ∧ s.freeRun = false
    t.flag Reg.tickCtrl 0 = true ∧
    (edgeNow → t.tick.num = s.tick.num + 1 ∧ t.tick.edges = true ∧ t.tick.running = (!t.freeRun || t.tick.pass) ∧ t.tick.edgeAt = some s.now ∧ t.tick.ending = .none) ∧
    (¬edgeNow →
      t.units = { s.units with tick := if anew then { s.tick with accepted := 0, flywheel := false, announced := none }
        else if rises then { s.tick with ending := if s.tick.ending = .lastAndMore then .lastTick else .none } else s.tick } ∧ regsBut [Reg.tickCtrl] s t ∧ sameMem s t)) ∧
  (∀ s, s.safe → Completes .tickEnClear s fun t =>
    t.flag Reg.tickCtrl 0 = false ∧
    t.units = { s.units with tick :=
      if s.isHead = true ∧ s.flag Reg.tickCtrl 0 = true ∧ s.freeRun = false then
        { s.tick with ending := if s.tick.ending = .lastTick then .lastAndMore else .oneMore }
      else s.tick } ∧ regsBut [Reg.tickCtrl] s t ∧ sameMem s t) ∧
  (∀ s, let may := generating s ∧ s.tick.announced = none ∧ (¬srcIn s ∨ s.tick.flywheel = true)
    (¬may → exec .tickSetLaunch s = .next s) ∧
    (may → Completes .tickSetLaunch s fun t =>
      launched s t ∧ t.tick = { s.tick with announced := t.tick.announced, flyAt := if s.tick.flywheel = true then s.now else s.tick.flyAt } ∧
        t.units = { s.units with tick := t.tick, link := t.link } ∧ regsBut [] s t ∧ sameMem s t)) ∧
  (∀ s, s.safe →
    let since := s.now - (if s.tick.flywheel = true then s.tick.flyAt else s.tick.acceptAt)
    let early := (s.tick.flywheel = true ∨ 1 ≤ s.tick.accepted) ∧ since < (s.period - guardOf s.period) * 1000
    (¬(generating s ∧ srcIn s) → exec .tickInEdge s = .next s) ∧
    (generating s → srcIn s → early → Completes .tickInEdge s fun t =>
      t.flag Reg.tickStat 2 = true ∧ t.units = s.units ∧ regsBut [Reg.tickStat, Reg.tickCnt1] s t ∧ sameMem s t) ∧
    (generating s → srcIn s → ¬early → Completes .tickInEdge s fun t =>
      launched s t ∧ t.tick = { s.tick with
        accepted := min 2 (s.tick.accepted + 1), acceptAt := s.now, flywheel := false, announced := t.tick.announced
        flyCount := if s.tick.flywheel = true then 0 else s.tick.flyCount } ∧
      (1 ≤ s.tick.accepted → s.tick.flywheel = false →
        t.fld Reg.tickMeas 19 0 = min 0xFFFFF ((2 * (s.now - s.tick.acceptAt) + 1000) / 2000)) ∧
      t.units = { s.units with tick := t.tick, link := t.link } ∧ regsBut [Reg.tickMeas] s t ∧ sameMem s t)) ∧
  (∀ s, s.safe →
    let lost := generating s ∧ srcIn s ∧ s.tick.flywheel = false ∧ s.tick.announced = none ∧ 1 ≤ s.tick.accepted
    (¬lost → exec .tickLost s = .next s) ∧
    (lost → Completes .tickLost s fun t =>
      launched s t ∧ t.tick = { s.tick with announced := t.tick.announced, flywheel := true, flyAt := s.now } ∧
      t.flag Reg.tickStat 1 = true ∧ (∃ c, t.flt.conds = s.flt.conds ++ [c] ∧ c.code = 0x0102 ∧ c.sev = 1) ∧
      t.units = { s.units with tick := t.tick, link := t.link, flt := t.flt } ∧ regsBut [Reg.tickStat, Reg.tickCnt0] s t ∧ sameMem s t)) ∧
  (∀ s, s.tick.ending ≠ .lastTick → s.tick.ending ≠ .lastAndMore → exec .endOfTicking s = .next s) ∧
  (∀ s, s.safe → banksOrdered s → s.tick.ending = .lastTick ∨ s.tick.ending = .lastAndMore → Completes .endOfTicking s fun t =>
    t.tick.num = s.tick.num ∧ t.tick.running = false ∧ t.tick.edges = false ∧ t.tick.flywheel = false ∧ t.tick.sched = false ∧
    t.tick.ending = (if s.tick.ending = .lastAndMore then .oneMore else .none) ∧ t.en.acc = noSpend ∧ t.en.shown = 0 ∧
    (s.tick.sched = true → t.tick.startAt = none) ∧ (s.tick.sched = false → s.pwr.pend = none → t.tick.startAt = s.tick.startAt) ∧
    t.tick.entries = [] ∧ (∀ e, t.runOf e = none) ∧ t.dsp.holdsWork = false ∧ t.en.maxCount = 0 ∧
    (∀ p, s.stg.pend = some p → p.byAt = false → t.stg = { s.stg with pend := none } ∧ t.stored Reg.stgLastTick = s.tick.num) ∧
    ((∀ p, s.stg.pend = some p → p.byAt = true) → t.stg = s.stg) ∧
    (s.working = true → s.tick.stopping = false → t.flag Reg.tickStat 0 = true ∧ t.stored Reg.tickOvrNum = s.tick.num) ∧
    t.pwr = (match s.pwr.pend with
      | some l => if s.pwr.pendReady = true then { s.pwr with level := l, pend := none, pendReady := false } else s.pwr
      | none => s.pwr)) ∧
  (∀ s, exec .tickEdgesStop s = .next (if s.tick.edges = true ∧ s.tick.pass = false then
    { s with units := { s.units with tick := { s.tick with
                                              edges := false, metered := false
                                              running := s.tick.running && (s.isHead || s.link.addr != 0) }
                                     en := { s.en with maxSum := 0, maxCount := 0, sens := List.replicate 6 (0, 0)
                                                       acc := noSpend, shown := 0 } } } else s)) ∧
  (∀ s, exec .tickOutPulseEnd s = .next { s with units := { s.units with tick := { s.tick with tickOut := false } } })

/-- An entry starts when its START arrives and its engines are free, else it waits with SLOT_LATE; a reservation that ends first, or while
work items outlive a SYNC timeout, is SLOT_LATE, and the guard skips what has not started with SLOT_SKIP. An entry completes when its list and every work item of it has (R59 to
R63, R313, R320). Model's choices: what a SYNC timeout leaves to its entry and its engine (log entry 78), that entries which STOP kept from
starting are not skipped (log entry 114), and when a scene-memory move is over (log entry 74). -/
def Obligations.SlotsRunInOrder : Prop :=
  let inTick := fun s : State => s.freeRun = false ∨ s.wm.frame = true
  let runs := fun s : State => (s.tick.sched = true ∧ s.pwr.level = .run) ∨ s.wm.frame = true
  let works := fun (s : State) (n : Nat) => s.entry n = .started ∨ (s.entry n = .done ∧ ∃ d ∈ s.dsp.descs, d.entry = n)
  (∀ n s, s.safe →
    let may := runs s ∧ inTick s ∧ s.tick.guard = false ∧ n < s.tick.entries.length ∧ s.entry n = .notDue
    (¬may → exec (.slotStart n) s = .next s) ∧
    (may → s.canStart n = true → ∀ x, s.slot? n = some x → Completes (.slotStart n) s fun t =>
      let r : Run := { entry := n, list := x.list, len := x.len, pos := 0, both := decide (x.eng = 2), block := .none, ended := false, waited := false }
      t.runOf (slotEngine x.eng) = some r ∧ (x.eng = 2 → t.runOf .me1 = some r) ∧
        (∀ e, e ≠ slotEngine x.eng → (x.eng = 2 → e ≠ .me1) → t.runOf e = s.runOf e) ∧ t.eng.image = s.eng.image ∧
        t.tick = { s.tick with entries := s.tick.entries.set n .started, started := s.tick.started + 1, last := n } ∧
        t.units = { s.units with tick := t.tick, eng := t.eng } ∧ regsBut engPosRegs s t ∧ sameMem s t) ∧
    (may → s.canStart n = false → Completes (.slotStart n) s fun t =>
      t.flag Reg.tickStat 3 = true ∧ t.units = { s.units with tick := { s.tick with entries := s.tick.entries.set n .waiting } } ∧
        regsBut [Reg.tickStat, Reg.tickCnt1] s t ∧ sameMem s t)) ∧
  (∀ n s, ¬(inTick s ∧ works s n) → exec (.reservationEnd n) s = .next s) ∧
  (∀ n s, s.safe → inTick s → works s n → Completes (.reservationEnd n) s fun t =>
    t.flag Reg.tickStat 3 = true ∧ t.fld Reg.tickCnt1 31 16 = min (s.fld Reg.tickCnt1 31 16 + 1) 65535 ∧ t.units = s.units ∧
      regsBut [Reg.tickStat, Reg.tickCnt1] s t ∧ sameMem s t) ∧
  (∀ s, ¬inTick s → exec .guardStart s = .next s) ∧
  (∀ s, inTick s → ¬runs s → exec .guardStart s = .next { s with units := { s.units with tick := { s.tick with guard := true } } }) ∧
  (∀ s, s.safe → inTick s → runs s → Completes .guardStart s fun t =>
    let left := fun e : Entry => e = .notDue ∨ e = .waiting
    t.tick = { s.tick with
      guard := true, entries := t.tick.entries, incomplete := s.tick.incomplete || s.tick.entries.any fun e => e == .notDue || e == .waiting } ∧
    t.tick.entries = s.tick.entries.map (fun e => if e = .notDue ∨ e = .waiting then .skipped else e) ∧
    ((∃ e ∈ s.tick.entries, left e) → t.flag Reg.tickStat 5 = true) ∧ ((∀ e ∈ s.tick.entries, ¬left e) → regsBut [] s t) ∧
    t.units = { s.units with tick := t.tick } ∧ regsBut [Reg.tickStat, Reg.tickCnt2] s t ∧ sameMem s t) ∧
  (∀ e s, s.runOf e = none → exec (.entryComplete e) s = .next s) ∧
  (∀ e s r, s.runOf e = some r → s.listDone r = false → exec (.entryComplete e) s = .next s) ∧
  (∀ e s r, s.runOf e = some r → s.listDone r = true → r.entry < s.tick.entries.length → Completes (.entryComplete e) s fun t =>
    t.entry r.entry = .done ∧ t.tick.entries.length = s.tick.entries.length ∧
    ((∀ n, s.entry n ≠ .waiting) → inTick s → (r.both = true → s.eng.me1 = none) →
      t.runOf e = none ∧ (r.both = false → ∀ x, x ≠ e → t.runOf x = s.runOf x)) ∧
    t.tick.num = s.tick.num ∧ t.stg = s.stg ∧ t.pwr = s.pwr ∧ t.eng.image = s.eng.image) ∧
  (∀ s, exec .smMoveComplete s = .next { s with units := { s.units with sm := { s.sm with moving := false } } })

/-- A report falls due when ENTRY completes, and at the edge when it has not: then the head's page is published as it stands with
REPORT_ABORT, and a member's TICK_STATE says INCOMPLETE. A page whose copy completes is the newest one and the host is told; the page that
held the older tick is the one that it replaces (R531, R532, R537, R538); which page is taken when one holds no tick yet is the model's choice (log
entry 71). -/
def Obligations.ReportsAreMade : Prop :=
  let state := fun (s : State) (incomplete : Bool) =>
    BitVec.ofNat 32 (fromBits [s.en.cur.testBit 0, s.en.cur.testBit 1, s.tick.incomplete || incomplete, s.tick.lost, s.tick.untrusted, s.tick.exact])
  let older := fun r : Res => decide (r.page0 ≠ none ∧ (r.page1 = none ∨ r.newest = false))
  (∀ s, s.res.copy = none → exec .resultPageCopyComplete s = .next s) ∧
  (∀ s p tick bytes, s.safe → s.res.copy = some (p, tick, bytes) → Completes .resultPageCopyComplete s fun t =>
    let at' := (s.stored (if p = true then Reg.resPage1 else Reg.resPage0)).toNat
    t.res = { s.res with
      copy := none, newest := p, since := true
      page0 := if p = true then s.res.page0 else some tick
      page1 := if p = true then some tick else s.res.page1 } ∧
    (inOneRange at' bytes.length = true → t.rdBytes at' bytes.length = bytes) ∧
    (∀ a, a < at' ∨ at' + bytes.length ≤ a → t.rd8 a = s.rd8 a) ∧
    t.flag Reg.hpIrqStat 1 = true ∧ t.units = { s.units with res := t.res } ∧ regsBut [Reg.hpIrqStat, Reg.hpCnt0] s t) ∧
  (∀ e s r, s.safe → s.runOf e = some r → s.listDone r = true → r.entry < s.tick.entries.length → s.wm.frame = false → s.res.valid = true →
    s.pwr.level = .run → s.res.done = false → s.entry r.entry ≠ .done → r.entry = s.fld Reg.resCtrl 8 0 → Completes (.entryComplete e) s fun t =>
      t.res.done = true ∧
      (s.isHead = true → ∃ p bytes, t.res.copy = some (p, s.tick.num, bytes) ∧ field bytes 0 4 = s.tick.num.toNat ∧
        bit (BitVec.ofNat 32 (field bytes 4 4)) 31 = true ∧ p = older s.res) ∧
      (s.isHead = false → Sends .up t 9 1 (leBytes 2 0x0201 ++ [0, 0] ++ wordBytes s.tick.num ++ wordBytes (state s false)))) ∧
  (∀ sp s, s.safe → s.res.valid = true → s.pwr.level = .run → s.tick.entries ≠ [] → s.res.done = false → s.stg.pend = none →
    s.pwr.pend = none → s.tick.startAt = none →
    ∀ c, (c = .tickEdge sp ∧ s.dueEdge ≠ none) ∨ (c = .freeRunPassEnd sp ∧ s.passOver = true) → Completes c s fun t =>
      (s.isHead = true →
        t.res.newest = older s.res ∧ t.res.since = true ∧ t.res.copy = s.res.copy ∧
        t.res.page0 = (if older s.res = true then s.res.page0 else some s.tick.num) ∧
        t.res.page1 = (if older s.res = true then some s.tick.num else s.res.page1) ∧
        t.flag Reg.hpIrqStat 1 = true ∧ t.flag Reg.resFlags 0 = true ∧
        (s.romOnly = false → ∃ x ∈ t.flt.conds, x.code = 0x0002 ∧ x.sev = 1)) ∧
      (s.isHead = false → Sends .up t 9 1 (leBytes 2 0x0201 ++ [0, 0] ++ wordBytes s.tick.num ++ wordBytes (state s true))))

/-- The commands that control a list, once they are at its head and may issue: NOP does nothing; SYNC and WAIT_SLOT go on when their
condition holds and block otherwise, and are released when it comes to hold; a SYNC timeout drops the rest of the list, and its engine is free
once its work items have completed (the model's choice, log entry 78); SIGNAL adds to a fence counter, saturating; SHAPE_SET writes a
stamped shape word (R318, R319, R330 to R335, R337). -/
def Obligations.ListControlActs : Prop :=
  let plain := fun (s t : State) => t.units = { s.units with eng := t.eng } ∧ sameMem s t
  let reached := fun (s : State) (completed : Bool) (n : Nat) => s.tick.entries[n]? = some .done ∨ (completed = false ∧ s.tick.entries[n]? = some .started)
  (∀ e s, ∀ x ∈ ([(.nop e, 0x00), (.sync e, 0x02), (.signal e, 0x03), (.waitSlot e, 0x04), (.shapeSet e, 0x05)] : List (Instr × Nat)),
    mayIssue s e x.2 = false → exec x.1 s = .next s) ∧
  (∀ e s r, s.runOf e = some r → mayIssue s e 0x00 = true → Completes (.nop e) s fun t =>
    Advanced e r (hdrNw (s.rd32 r.at)) s t ∧ plain s t ∧ regsBut engPosRegs s t) ∧
  (∀ e s r, s.runOf e = some r → mayIssue s e 0x02 = true → 2 ≤ hdrNw (s.rd32 r.at) →
    let w := s.rd32 (r.at + 4)
    let tmo := if 3 ≤ hdrNw (s.rd32 r.at) then bits (s.rd32 (r.at + 8)) 19 0 else 0
    Completes (.sync e) s fun t =>
      (if bits w 31 16 ≤ s.fence (bits w 5 0) then Advanced e r (hdrNw (s.rd32 r.at)) s t
       else t.runOf e = some { r with block := .sync (bits w 5 0) (bits w 31 16) tmo } ∧ regsBut [] s t) ∧
      plain s t ∧ regsBut engPosRegs s t) ∧
  (∀ e s r fc value tmo, s.runOf e = some r → r.block = .sync fc value tmo →
    (s.fence fc < value → exec (.syncRelease e) s = .next s) ∧
    (value ≤ s.fence fc → Completes (.syncRelease e) s fun t => Advanced e r 3 s t ∧ plain s t ∧ regsBut engPosRegs s t) ∧
    (tmo = 0 → exec (.syncTmo e) s = .next s) ∧
    (tmo ≠ 0 → r.entry < s.tick.entries.length → s.safe → Completes (.syncTmo e) s fun t =>
      t.flag Reg.engFlags 2 = true ∧ t.tick.incomplete = true ∧ t.entry r.entry = .done ∧
      (s.romOnly = false → ∃ c ∈ t.flt.conds, c.code = 0x0701 ∧ c.sev = 1) ∧
      ((∀ d ∈ s.dsp.descs, d.entry ≠ r.entry) →
        (∀ n, s.entry n ≠ .waiting) → s.freeRun = false → (r.both = true → s.eng.me1 = none) → t.runOf e = none) ∧
      ((∃ d ∈ s.dsp.descs, d.entry = r.entry) → t.runOf e = some { r with ended := true, block := .none }) ∧
      t.stg = s.stg ∧ t.pwr = s.pwr)) ∧
  (∀ e s, (∀ r fc value tmo, s.runOf e = some r → r.block ≠ .sync fc value tmo) →
    exec (.syncRelease e) s = .next s ∧ exec (.syncTmo e) s = .next s) ∧
  (∀ e s r, s.safe → s.runOf e = some r → mayIssue s e 0x03 = true → 2 ≤ hdrNw (s.rd32 r.at) →
    let w := s.rd32 (r.at + 4)
    Completes (.signal e) s fun t =>
      t.fence (bits w 5 0) = min (s.fence (bits w 5 0) + bits w 31 16) 65535 ∧ (∀ n < 64, n ≠ bits w 5 0 → t.fence n = s.fence n) ∧
      Advanced e r (hdrNw (s.rd32 r.at)) s t ∧ plain s t ∧ regsBut ((Reg.engFc0 + 4 * bits w 5 0) :: engPosRegs) s t) ∧
  (∀ e s r, s.runOf e = some r → mayIssue s e 0x04 = true → 2 ≤ hdrNw (s.rd32 r.at) →
    let w := s.rd32 (r.at + 4)
    Completes (.waitSlot e) s fun t =>
      (reached s (bit w 31) (bits w 8 0) → Advanced e r (hdrNw (s.rd32 r.at)) s t) ∧
      (¬reached s (bit w 31) (bits w 8 0) →
        t.runOf e = some { r with block := .waitSlot (bit w 31) (bits w 8 0) } ∧ regsBut [] s t) ∧
      plain s t ∧ regsBut engPosRegs s t) ∧
  (∀ e s r completed n, s.runOf e = some r → r.block = .waitSlot completed n →
    (¬reached s completed n → exec (.waitSlotRelease e) s = .next s) ∧
    (reached s completed n → Completes (.waitSlotRelease e) s fun t => Advanced e r 2 s t ∧ plain s t ∧ regsBut engPosRegs s t)) ∧
  (∀ e s, (∀ r completed n, s.runOf e = some r → r.block ≠ .waitSlot completed n) → exec (.waitSlotRelease e) s = .next s) ∧
  (∀ e s r, s.safe → s.runOf e = some r → mayIssue s e 0x05 = true → 3 ≤ hdrNw (s.rd32 r.at) →
    let a := (s.rd32 (r.at + 4)).toNat
    Completes (.shapeSet e) s fun t =>
      (inOneRange a 4 = true → regionOf a ≠ some .mram →
        t.rd32 a = BitVec.ofNat 32 (s.tick.num.toNat % 65536 * 65536 + bits (s.rd32 (r.at + 8)) 15 0)) ∧
      (∀ b, b < a ∨ a + 4 ≤ b → t.rd8 b = s.rd8 b) ∧
      Advanced e r (hdrNw (s.rd32 r.at)) s t ∧ t.units = { s.units with eng := t.eng } ∧ regsBut engPosRegs s t)

/-- A command that computes issues its tile list as one descriptor of its queue and the list goes on; an extent of 0 issues nothing; a full
queue holds the descriptor with QFULL until an entry is free, and what ME0 and ME1 hold for a queue enters it before another engine's; a
scene-memory move that it would meet holds the command with SM_WAIT (R338 to R341, R349, R351 to R358, R360, R448, R492, R493, R520). That a
dynamic W only tells whether a MATMUL or CONV has work is the model's choice (log entry 107). -/
def Obligations.WorkIsEnqueued : Prop :=
  let queued := fun (e : Engine) (r : Run) (d : Desc) (s t : State) =>
    t.dsp = { s.dsp with descs := s.dsp.descs ++ [{ d with id := s.dsp.nextId }], ready := s.dsp.ready ++ [s.dsp.nextId], nextId := s.dsp.nextId + 1 } ∧
    Advanced e r d.words.length s t
  let first := fun (e : Engine) (prio : Nat) (s : State) => ∀ x ∈ enginesBefore e, s.heldBy x prio = none
  let quiet := fun (s t : State) =>
    t.stg = s.stg ∧ t.tick = s.tick ∧ t.link = s.link ∧ t.flt = s.flt ∧
      (s.flag Reg.trCtrl 0 = false → sameMem s t ∧ t.units = { s.units with eng := t.eng, dsp := t.dsp })
  let tiles := fun (typ : Nat) (ws : List Word) (ext : Nat) =>
    if typ ≤ 1 then ceilDiv ext (itemShape ws).1 * ceilDiv (trefAt ws 5).cols (itemShape ws).2 * splitWays ws
    else if typ ≤ 3 then (heads ws).1 * ceilDiv ext 32 else ceilDiv ext 64
  let held := fun (e : Engine) (c : Instr) (opc : Nat) =>
    (∀ s, mayIssue s e opc = false → exec c s = .next s) ∧
    (∀ s r, s.safe → s.runOf e = some r → mayIssue s e opc = true → smHolds s (s.command r) = true →
      (r.waited = true → exec c s = .next s) ∧
      (r.waited = false → Completes c s fun t =>
        t.runOf e = some { r with waited := true } ∧ t.flag Reg.smFlags 2 = true ∧ t.units = { s.units with eng := t.eng } ∧
          regsBut [Reg.smFlags, Reg.smCnt1] s t ∧ sameMem s t))
  let issued := fun (e : Engine) (c : Instr) (opc typ : Nat) (refs : List Nat) =>
    held e c opc ∧
    (∀ s r, s.safe → s.runOf e = some r → mayIssue s e opc = true → smHolds s (s.command r) = false →
      let ws := s.command r
      let ts := refs.map (trefAt ws)
      let work := commandExtent s ts
      let rows := trefAt ws (refs.headD 1)
      let ext := if typ ≤ 1 ∧ work ≠ 0 ∧ rows.dyn = false then rows.rows else work
      let prio := bits (wordAt ws 0) 16 14
      let me := bits (wordAt ws 0) 13 12
      Completes c s fun t =>
        (∀ x, ts.find? (fun x => x.dyn) = some x → bits (s.rd32 x.shape) 31 16 ≠ s.tick.num.toNat % 65536 →
          ext = 0 ∧ t.flag Reg.engFlags 0 = true ∧ t.stored Reg.engStaleAddr = BitVec.ofNat 32 x.shape) ∧
        (∀ x, ts.find? (fun x => x.dyn) = some x → bits (s.rd32 x.shape) 31 16 = s.tick.num.toNat % 65536 → x.rows < bits (s.rd32 x.shape) 15 0 →
          work = x.rows ∧ t.flag Reg.engFlags 1 = true ∧ t.stored Reg.engStaleAddr = BitVec.ofNat 32 x.shape) ∧
        (ext = 0 → Advanced e r ws.length s t ∧ t.dsp = s.dsp ∧ (typ ≠ 6 → t.units = { s.units with eng := t.eng } ∧ sameMem s t)) ∧
        (ext = 0 → typ = 6 → wordAt ws 8 ≠ 0 → ∀ n < bits (wordAt ws 7) 8 0, let a := (wordAt ws 8).toNat + 4 * n
          (∀ k < bits (wordAt ws 7) 8 0, let b := (wordAt ws 8).toNat + 4 * k
            inOneRange b 4 = true ∧ regionOf b ≠ some .mram) → t.rd32 a = BitVec.ofNat 32 (s.tick.num.toNat % 65536 * 65536)) ∧
        (ext ≠ 0 → ∃ d, d.typ = typ ∧ d.tiles = tiles typ ws ext ∧ d.extent = ext ∧ d.prio = prio ∧ d.entry = r.entry ∧ d.cmdAddr = r.at ∧
          d.words = ws ∧ d.next = 0 ∧ d.doneTiles = 0 ∧ d.stallAt = none ∧ d.cmdId = bits (wordAt ws 0) 11 0 ∧ (d.vector = true ↔ 1 < typ) ∧
          d.cores = (if me = 1 ∨ me = 2 then me else if r.both = true then 3 else match e with | .me0 => 1 | .me1 => 2 | _ => 3) ∧
          (typ ≤ 1 → d.kSplit = splitWays ws ∧ d.kChunk = chunkLen ws) ∧ (1 < typ → d.kSplit = 1) ∧
          (s.dsp.level prio < 256 → first e prio s → queued e r d s t) ∧
          (256 ≤ s.dsp.level prio → t.dsp = s.dsp ∧ t.runOf e = some { r with block := .held d } ∧ t.flag Reg.dspFlags 0 = true)) ∧
        (ext ≠ 0 ∨ typ ≠ 6 → quiet s t))
  (∀ e, issued e (.matmul e) 0x10 0 [1, 5]) ∧ (∀ e, issued e (.conv e) 0x11 1 [9, 5]) ∧ issued .ve .route 0x20 6 [1] ∧
  issued .ve .quant 0x30 7 [1, 5] ∧ issued .ve .rotate 0x31 8 [1, 5] ∧ issued .ve .vecop 0x32 9 [1, 5, 9] ∧
  (∀ e, held e (.attend e) 0x12) ∧
  (∀ e s r, s.safe → s.runOf e = some r → mayIssue s e 0x12 = true → smHolds s (s.command r) = false →
    let ws := s.command r
    let ext := commandExtent s [trefAt ws 1, trefAt ws 13]
    let keys := commandExtent s [trefAt ws 5, trefAt ws 9]
    let prio := bits (wordAt ws 0) 16 14
    Completes (.attend e) s fun t =>
      (ext = 0 ∨ keys = 0 → Advanced e r ws.length s t ∧ t.dsp = s.dsp ∧ sameMem s t) ∧
      (ext ≠ 0 → keys ≠ 0 → ∃ d, (d.typ = 2 ∨ d.typ = 3) ∧ (d.typ = 2 ↔ prunerRuns s ws = true) ∧ d.tiles = tiles d.typ ws ext ∧ d.extent = ext ∧
        d.keys = keys ∧ d.prio = prio ∧ d.entry = r.entry ∧ d.words = ws ∧ d.next = 0 ∧ (d.typ = 2 → d.cores = 3 ∧ d.vector = true) ∧
        (s.dsp.level prio < 256 → first e prio s → queued e r d s t) ∧
        (256 ≤ s.dsp.level prio → t.dsp = s.dsp ∧ t.runOf e = some { r with block := .held d } ∧ t.flag Reg.dspFlags 0 = true)) ∧
      quiet s t) ∧
  (∀ e s r d, s.runOf e = some r → r.block = .held d →
    (256 ≤ s.dsp.level d.prio → exec (.heldEnqueue e) s = .next s) ∧
    (s.dsp.level d.prio < 256 → first e d.prio s → Completes (.heldEnqueue e) s fun t => queued e r d s t ∧ quiet s t)) ∧
  (∀ s r d r0 d0, s.runOf .me1 = some r → r.block = .held d → s.runOf .me0 = some r0 → r0.both = false → r0.block = .held d0 → d0.prio = d.prio →
    (∀ i ∈ s.dsp.ready, i < s.dsp.nextId) → s.dsp.level d.prio < 255 → Completes (.heldEnqueue .me1) s fun t =>
      t.dsp = { s.dsp with
        descs := s.dsp.descs ++ [{ d0 with id := s.dsp.nextId }, { d with id := s.dsp.nextId + 1 }]
        ready := s.dsp.ready ++ [s.dsp.nextId, s.dsp.nextId + 1], nextId := s.dsp.nextId + 2 } ∧
      t.runOf .me0 = some { r0 with pos := r0.pos + d0.words.length, block := .none, ended := decide (r0.len ≤ r0.pos + d0.words.length), waited := false } ∧
      t.runOf .me1 = some { r with pos := r.pos + d.words.length, block := .none, ended := decide (r.len ≤ r.pos + d.words.length), waited := false }) ∧
  (∀ e s, (∀ r d, s.runOf e = some r → r.block ≠ .held d) → exec (.heldEnqueue e) s = .next s)

/-- A hand-out gives the first unit of a group that can take one the item of the highest queue that it may serve, the oldest continuation
before a fresh tile. A completed item counts, frees its unit for the prefetched one, and leads to its command's next item or brings the
command nearer to its end. It writes its own elements, partial sums, scores or tags and leaves all other memory alone (R371, R380 to R382, R430
to R435, R444, R447, R497); split-K partials, masks and scores lie in scratch memory as log entry 19 says. The STALL record of a wait for scratch gives the wait in µs and comes when the wait is over (R361 to R375, R394, R398;
log entry 108). -/
def Obligations.UnitsWork : Prop :=
  let itemOf := fun (s : State) (u : Nat) => (s.dsp.active.find? fun x => x.1 == u).bind fun x => (s.dsp.desc? x.2.desc).map fun d => (x.2, d)
  (∀ g s, s.dsp.ready = [] → s.dsp.conts = [] → exec (.tileHandOut g) s = .next s) ∧
  (∀ g s u pre i fresh d, s.safe →
    ((takers s g).findSome? fun u => (pickFor s u.1).map fun p => (u, p)) = some ((u, pre), i, fresh) → s.dsp.desc? i.desc = some d →
    Completes (.tileHandOut g) s fun t =>
      u ∈ groupUnits g ∧ s.eligible d i.typ u = true ∧ ((∃ x ∈ s.dsp.active, x.1 = u) ↔ pre = true) ∧
      (pre = true → s.flag Reg.dspCtrl 0 = true ∧ ∀ x ∈ s.dsp.prefetch, x.1 ≠ u) ∧
      (∀ q, d.prio < q → q ≤ 7 → contFor s u q = none ∧ ∀ x ∈ queueFor s u q, scratchBlocked s x = true) ∧
      t.dsp.active = (if pre = true then s.dsp.active else s.dsp.active ++ [(u, i)]) ∧
      t.dsp.prefetch = (if pre = true then s.dsp.prefetch ++ [(u, i)] else s.dsp.prefetch) ∧
      (fresh = true → i.tile = d.next ∧ i.typ = d.typ ∧ t.dsp.conts = s.dsp.conts ∧ (∃ y, t.dsp.desc? d.id = some y ∧ y.next = d.next + 1) ∧
        t.dsp.ready = if d.next + 1 < d.tiles then s.dsp.ready else s.dsp.ready.filter fun j => j != d.id) ∧
      (fresh = false → t.dsp.conts = s.dsp.conts.erase i ∧ t.dsp.ready = s.dsp.ready) ∧
      (∀ t0, fresh = true → d.stallAt = some t0 → tracePasses s 5 d.prio d.src 0xFF = true → s.units.trace.buffered < 64 →
        (∀ ev, ev = 1 ∨ ev = 2 ∨ ev = 3 → tracePasses s ev d.prio d.src u = false) →
        let p := (s.stored Reg.trBase).toNat + s.fld Reg.trWptr 17 0
        inOneRange p 16 = true → regionOf p ≠ some .mram →
          bits (t.rd32 p) 11 8 = 5 ∧ bits (t.rd32 (p + 4)) 15 8 = 0xFF ∧ bits (t.rd32 (p + 4)) 7 0 = min 255 ((s.now - t0) / 1000)) ∧
      t.eng = s.eng ∧ t.tick = s.tick ∧ t.stg = s.stg ∧ (s.flag Reg.trCtrl 0 = false → sameMem s t)) ∧
  (∀ u s, itemOf s u = none → exec (.tileComplete u) s = .next s) ∧
  (∀ u s i d, s.safe → itemOf s u = some (i, d) → Completes (.tileComplete u) s fun t =>
    t.fld Reg.dspDoneCnt 31 0 = min (s.fld Reg.dspDoneCnt 31 0 + 1) 0xFFFFFFFF ∧
    t.dsp.active = s.dsp.active.filter (fun x => x.1 != u) ++
      (match s.dsp.prefetch.find? fun x => x.1 == u with | some x => [(u, x.2)] | none => []) ∧
    t.dsp.prefetch = s.dsp.prefetch.filter (fun x => x.1 != u) ∧ t.dsp.ready = s.dsp.ready ∧
    (2 ≤ i.typ → i.typ ≤ 4 → t.dsp.conts = s.dsp.conts ++ [{ i with typ := i.typ + 1 }]) ∧
    (i.typ = 5 ∨ i.typ = 10 → (∀ b ∈ t.dsp.scratch, ¬(b.desc = d.id ∧ b.block = i.tile)) ∧ t.dsp.conts = s.dsp.conts) ∧
    (i.typ = 5 ∨ i.typ = 10 ∨ (6 ≤ i.typ ∧ i.typ ≤ 9) ∨ (i.typ ≤ 1 ∧ d.kSplit ≤ 1) →
      (d.left ≤ 1 → t.dsp.desc? d.id = none) ∧ (1 < d.left → ∃ y, t.dsp.desc? d.id = some y ∧ y.left = d.left - 1)) ∧
    (i.typ ≤ 1 → 1 < d.kSplit → (∀ b ∈ s.dsp.scratch, ¬(b.desc = d.id ∧ b.block = i.tile / d.kSplit ∧ b.chunks + 1 = d.kSplit)) →
      t.dsp.conts = s.dsp.conts) ∧
    (i.typ ≤ 1 → 1 < d.kSplit → (∃ b ∈ s.dsp.scratch, b.desc = d.id ∧ b.block = i.tile / d.kSplit ∧ b.chunks + 1 = d.kSplit) →
      t.dsp.conts = s.dsp.conts ++ [{ desc := d.id, tile := i.tile / d.kSplit, typ := 10 }]) ∧
    t.eng = s.eng ∧ t.tick = s.tick ∧ t.stg = s.stg ∧ t.pwr = s.pwr) ∧
  (∀ u s i d, s.safe → itemOf s u = some (i, d) → s.flag Reg.trCtrl 0 = false → Completes (.tileComplete u) s fun t =>
    let ws := d.words
    let base := scratchBase s d i
    let b := i.tile / d.kSplit
    let ks := i.tile % d.kSplit
    let sh := itemShape ws
    (∀ a, ¬itemWrites d i base a → t.rd8 a = s.rd8 a) ∧
    (∀ y rows cols code, itemOut s d i base = some (y, rows, cols, code) → Placed y rows cols →
      ∀ r ∈ rows, ∀ c ∈ cols, t.elem y r c = code r c % 2 ^ fmtBits y.fmt) ∧
    (i.typ ≤ 1 → 1 < d.kSplit → inOneRange (partialAddr d base ks 0 0) (4 * sh.1 * sh.2) = true →
      ∀ m ∈ blockRows d b, ∀ n ∈ blockCols d b,
        t.rd32 (partialAddr d base ks (m - (blockRows d b).headD 0) (n - (blockCols d b).headD 0)) =
          (chunkAcc s ws m n (ks * d.kChunk) (min (redLen ws) (ks * d.kChunk + d.kChunk))).1) ∧
    (i.typ = 3 → inOneRange base (attnBlock ws) = true → d.keys ≤ paddedKeys ws →
      ∀ j q, (blockQueries d i.tile)[j]? = some q → ∀ k < d.keys,
        t.rd32 (scoreAddr ws base j k) = if d.typ = 2 ∧ skippedAt s ws base j k = true then 0xFF800000
          else BitVec.ofNat 32 (scoreOf s ws (blockHead d i.tile) q k).1.code) ∧
    (i.typ = 6 → ∀ r, vectorRows d i.tile = [r] →
      let n := routeRanks ws
      let tag := (wordAt ws 5).toNat + 4 * (r * n)
      let gate := (wordAt ws 6).toNat + 2 * (r * n)
      let codes := tokenCodes s ws r
      let best := bestExpert codes (List.range (bits (wordAt ws 7) 8 0))
      inOneRange tag (4 * n) = true → inOneRange gate (2 * n) = true → (gate + 2 * n ≤ tag ∨ tag + 4 * n ≤ gate) → d.typ ≠ 6 ∨ 1 < d.left →
      t.rd32 tag = tagWord s.link.addr.toNat r 0 best ∧ (n = 1 → t.rd16 gate = 0x3F80))) ∧
  (∀ u w s, itemOf s u = none → exec (.stall u w) s = .next s) ∧
  (∀ u w s, s.flag Reg.trCtrl 0 = false → exec (.stall u w) s = .next s) ∧
  (∀ u w s i d, s.safe → itemOf s u = some (i, d) → Completes (.stall u w) s fun t =>
    t.dsp = s.dsp ∧ t.eng = s.eng ∧ t.tick = s.tick ∧
    (tracePasses s 5 d.prio d.src u = true → s.units.trace.buffered < 64 →
      let p := (s.stored Reg.trBase).toNat + s.fld Reg.trWptr 17 0
      (inOneRange p 16 = true → regionOf p ≠ some .mram → bits (t.rd32 p) 11 8 = 5 ∧ bits (t.rd32 (p + 4)) 15 8 = u % 256 ∧ bits (t.rd32 (p + 4)) 7 0 = min 255 w) ∧
      (∀ a, a < p ∨ p + 16 ≤ a → t.rd8 a = s.rd8 a)) ∧
    regsBut [Reg.trWptr, Reg.trFlags, Reg.trCnt] s t)

/-- The commands of the Exchange Engine. SORT fills the send buffer and counts its destinations, COMBINE writes a status byte per token, and
the list goes on. SCATTER and EXCHANGE send their segments and wait for inbound traffic; its end, or the close of its window with
SEG_MISSING, adds 1 to their fence counter and the list goes on. A SCATTER of extent 0 goes on at once while its inbound traffic lasts (log
entry 67), and a pair whose WIN has passed leaves the buffer (R341, R457 to R485). A pair of a source that the command awaits is taken
at once: control words open its segment, tokens go to their bins, wait for the decision, or are results that go to the receive area; a token
that does not belong is counted in TAG_BAD, a pair that finds its bin full stays with BIN_FULL, and one that belongs to a later
command waits (R460, R461, R464, R465, R470 to R473, R478). Model's choices: the order in which inbound traffic and the list go on (log entry 66),
a token without a record counts as lost (log entry 68), missing return traffic sets SEG_MISSING without a record (log entry 119), and
when a pair belongs to a later command (log entry 109). -/
def Obligations.ExchangeActs : Prop :=
  let layerOf := fun (s : State) (r : Run) => s.layer? (xeLayer (s.command r))
  let opens := fun opc : Nat => opc = 0x21 ∨ opc = 0x23
  let fenced := fun (fc : Nat) (s t : State) =>
    t.xe.inbound = none ∧ t.fence fc = min (s.fence fc + 1) 65535 ∧ ∀ n < 64, n ≠ fc → t.fence n = s.fence n
  let meets := fun (p : Bool → Port → RxFrame → Half → Inbound → Layer → Seg → State → Prop) => ∀ isA q f h b l g s, s.safe →
    PairArrives isA q f h b l g s → p isA q f h b l g s
  let come := fun (isA : Bool) (q : Port) (f : RxFrame) => if isA = true then Instr.tokA q f else Instr.tokB q f
  let onlyXe := fun (s t : State) => t.units = { s.units with link := t.link, xe := t.xe } ∧
    regsBut [Reg.xeFlags, Reg.xeCnt1, Reg.xeCnt2, Reg.xePairsRx] s t
  let control := fun k : Token => tagMark k.tag = 31
  let unfinished := fun (b : Inbound) (g : Seg) => ∃ x ∈ b.segs, x.src ≠ g.src ∧ x.complete b.kind = false
  let foreign := fun (b : Inbound) (g : Seg) (f : RxFrame) (s : State) => g.complete b.kind = true ∧ (s.freeRun = true ∨ f.win ≠ b.win)
  let fits := fun (l : Layer) (g : Seg) (s : State) (ts : List Token) =>
    (∀ k ∈ ts, outExpert s l g.src k ≠ none) ∧ ∀ n, g.total = some n → g.got + ts.length ≤ n
  (∀ s, ∀ x ∈ ([(.scatter, 0x21), (.sort, 0x22), (.exchange, 0x23), (.combine, 0x24)] : List (Instr × Nat)),
    (mayIssue s .xe x.2 = false → exec x.1 s = .next s) ∧
    (opens x.2 → s.xe.inbound ≠ none → exec x.1 s = .next s) ∧
    (∀ r l, s.eng.xe = some r → layerOf s r = some l → mayIssue s .xe x.2 = true → (opens x.2 → s.xe.inbound = none) → smHolds s (s.command r) = true →
      (r.waited = true → exec x.1 s = .next s) ∧
      (s.safe → r.waited = false → Completes x.1 s fun t =>
        t.eng = { s.eng with xe := some { r with waited := true } } ∧ t.flag Reg.smFlags 2 = true ∧ t.units = { s.units with eng := t.eng } ∧
          regsBut [Reg.smFlags, Reg.smCnt1] s t ∧ sameMem s t))) ∧
  (∀ s r l, s.safe → s.eng.xe = some r → layerOf s r = some l → mayIssue s .xe 0x22 = true → smHolds s (s.command r) = false →
    Completes .sort s fun t =>
      let ws := s.command r
      let as' := assignments s l (wordAt ws 5).toNat (commandExtent s [trefAt ws 1])
      let x := trefAt ws 1
      let send := (wordAt ws 6).toNat
      let shapes := (wordAt ws 8).toNat
      let rows := x.rows * l.ranks
      let size := wireTag rows l.w rows
      let order := (List.range 32).flatMap fun d => ((List.range l.experts.length).filter fun e => l.nodeOf e == d + 1).flatMap fun e =>
        as'.filter fun a => tagExpert a.2 == e
      Advanced .xe r ws.length s t ∧ (t.layerSt l.layer).rowsX = (trefAt ws 1).rows ∧
      (inOneRange send size = true → regionOf send ≠ some .mram → shapes = 0 ∨ shapes + 128 ≤ send ∨ send + size ≤ shapes →
        order.length ≤ rows →
        (∀ i a, order[i]? = some a → TokenAt t send rows l.w i (tokenAt s x.addr x.rows l.w (tagToken a.2) a.2)) ∧
        (shapes ≠ 0 → inOneRange shapes 128 = true → regionOf shapes ≠ some .mram → ∀ d < 32,
          bits (t.rd32 (shapes + 4 * d)) 15 0 = (as'.filter fun a => l.nodeOf (tagExpert a.2) == d + 1).length % 65536) ∧
        ∀ a, ¬insideOf send size a → (shapes = 0 ∨ ¬insideOf shapes 128 a) → t.rd8 a = s.rd8 a) ∧
      (t.layerSt l.layer).counts = (List.range 32).map (fun d => (as'.filter fun a => l.nodeOf (tagExpert a.2) == d + 1).length) ∧
      t.dsp = s.dsp ∧ t.tick = s.tick ∧ t.link = s.link ∧ t.stg = s.stg) ∧
  (∀ s r l, s.safe → s.eng.xe = some r → layerOf s r = some l → mayIssue s .xe 0x24 = true → smHolds s (s.command r) = false →
    Completes .combine s fun t =>
      let ws := s.command r
      let e := commandExtent s [trefAt ws 1, trefAt ws 5, trefAt ws 9]
      let top2 := bit (wordAt ws 14) 31
      let st := s.layerSt l.layer
      let stat := fun tok rank => match st.sent.find? fun a => a.token == tok && a.rank == rank with
        | some a => if a.fate = .returned then 0 else if a.fate = .dropped then 1 else 2
        | none => 2
      let at' := (wordAt ws 13).toNat + 4 * bits (wordAt ws 14) 15 0
      let lost := ∃ i < e, stat i 0 = 2 ∨ (top2 = true ∧ stat i 1 = 2)
      Advanced .xe r ws.length s t ∧
      (inOneRange at' e = true → regionOf at' ≠ some .mram →
        ∀ i < e, (t.rd8 (at' + i)).toNat = stat i 0 + 4 * (if top2 = true then stat i 1 else 3)) ∧
      (let x := trefAt ws 1
       let cols := List.range x.cols
       let ranks := if top2 = true then 2 else 1
       let tags := (wordAt ws 13).toNat
       let gate := fun i k => numOf Fmt.bf16 (s.rd16 (tags + 4 * x.rows * ranks + 2 * (i * ranks + k)))
       let back := fun i c k => Machine.Num.mul (numOf l.xfmt (s.rd8 ((trefAt ws (5 + 4 * k)).addr + i * l.w + c)).toNat)
         (numOf Fmt.p2 (s.rd8 ((trefAt ws (5 + 4 * k)).addr + wireScale x.rows l.w i)).toNat)
       let plus := fun i c k acc => if stat i k = 0 then Machine.Num.add acc (Machine.Num.mul (gate i k) (back i c k)) else acc
       (Placed x (List.range e) cols → (∀ i < e, ∀ c ∈ cols, ∀ a, ofElem x i c a → ¬insideOf at' e a) → ∀ i < e, ∀ c ∈ cols,
         t.elem x i c = (narrow x.fmt (if top2 = true then plus i c 1 (plus i c 0 (s.num x i c)) else plus i c 0 (s.num x i c))).code %
           2 ^ fmtBits x.fmt) ∧
       ∀ a, (∀ i < e, ∀ c ∈ cols, ¬ofElem x i c a) → ¬insideOf at' e a → t.rd8 a = s.rd8 a) ∧
      (lost → t.flag Reg.xeFlags 1 = true ∧ t.tick = { s.tick with lost := true }) ∧ (¬lost → t.tick = s.tick) ∧
      t.dsp = s.dsp ∧ t.link = s.link ∧ t.stg = s.stg ∧ t.xe = s.xe) ∧
  (∀ s r l, s.safe → s.eng.xe = some r → layerOf s r = some l → ∀ x ∈ ([(.scatter, 0x21), (.exchange, 0x23)] : List (Instr × Nat)),
    mayIssue s .xe x.2 = true → smHolds s (s.command r) = false → s.xe.inbound = none → Completes x.1 s fun t =>
      let ws := s.command r
      let fc := if x.2 = 0x21 then bits (wordAt ws 7) 5 0 else bits (wordAt ws 5) 21 16
      let kind := if x.2 = 0x21 then 0 else if bit (wordAt ws 4) 8 = true then 2 else 1
      let gone := x.2 = 0x21 ∧ commandExtent s [trefAt ws 1] = 0
      (((∃ b, t.xe.inbound = some b ∧ b.layer = l.layer ∧ b.kind = kind ∧ b.fc = fc ∧ b.win = winOf s r.entry ∧
            b.segs.map (fun g => g.src) = (newSegs l s.link.addr.toNat kind).map fun g => g.src) ∧
          (¬gone → t.eng.xe = some { r with block := .busy ws }) ∧ ∀ n < 64, t.fence n = s.fence n) ∨
        (fenced fc s t ∧ (¬gone → Advanced .xe { r with block := .busy ws } ws.length s t))) ∧
      (gone → Advanced .xe r ws.length s t) ∧ t.dsp = s.dsp ∧ t.pwr = s.pwr ∧ t.stg = s.stg) ∧
  (∀ s, s.xe.inbound = none → (∀ p ∈ s.xe.pairs, winPassed s p.win = false) → exec .inboundWindowClose s = .next s) ∧
  (∀ s, s.safe → s.xe.inbound = none → Completes .inboundWindowClose s fun t =>
    t.xe = { s.xe with pairs := s.xe.pairs.filter fun p => !winPassed s p.win } ∧
    ((∃ p ∈ s.xe.pairs, winPassed s p.win = true) → t.flag Reg.rlFlags 5 = true) ∧
    t.units = { s.units with xe := t.xe, link := t.link } ∧ regsBut [Reg.rlFlags, Reg.rlCnt2] s t ∧ sameMem s t) ∧
  (∀ s b, s.safe → s.xe.inbound = some b → b.fc < 64 → Completes .inboundWindowClose s fun t =>
    let complete := fun g : Seg => ∃ n, g.total = some n ∧ (if b.kind = 0 then g.got = n else n ≤ g.got)
    InboundEnded b s t ∧
    t.xe.pairs = s.xe.pairs.filter (fun p => !p.full && !winPassed s p.win) ∧
    ((∃ g ∈ b.segs, ¬complete g) → t.flag Reg.xeFlags 3 = true ∧ t.tick = { s.tick with lost := true } ∧
      (s.romOnly = false → b.kind ≠ 2 → ∃ c ∈ t.flt.conds, c.code = 0x0801 ∧ c.sev = 1)) ∧
    ((∀ g ∈ b.segs, complete g) ∨ b.kind = 2 → t.flt = s.flt) ∧ ((∀ g ∈ b.segs, complete g) → t.tick = s.tick) ∧
    t.dsp = s.dsp ∧ t.pwr = s.pwr ∧ t.stg = s.stg) ∧
  (∀ s b l, s.safe → s.xe.inbound = some b → s.layer? b.layer = some l → b.fc < 64 → Completes .inboundWindowClose s fun t =>
    let me := s.link.addr.toNat
    let judged := fun n => match l.resident me n with | some e => slotVerdicts b l e.cap n | none => []
    let lost := ((List.range 16).map fun n => ((judged n).filter fun v => v.drop).length).sum
    (b.kind = 0 → ∀ n e, n < 16 → l.resident me n = some e → inOneRange e.shape 4 = true → regionOf e.shape ≠ some .mram →
      (∀ m < 16, ∀ y, l.resident me m = some y → m = n ∨ y.shape + 4 ≤ e.shape ∨ e.shape + 4 ≤ y.shape) →
      bits (t.rd32 e.shape) 15 0 = binRow s.xe l.layer n % 65536) ∧
    (b.kind = 1 →
      (∀ n < 16, binRow t.xe l.layer n = binRow s.xe l.layer n + ((judged n).filter fun v => !v.drop && v.got.isSome).length) ∧
      t.fld Reg.xeDropTok 31 0 = min (s.fld Reg.xeDropTok 31 0 + lost) 0xFFFFFFFF ∧
      (lost ≠ 0 → t.flag Reg.xeFlags 0 = true) ∧ (lost = 0 → t.flag Reg.xeFlags 0 = s.flag Reg.xeFlags 0) ∧
      (let at' := b.recv + 4 * b.shapeOff
       inOneRange at' 64 = true → regionOf at' ≠ some .mram → ∀ n < 16, l.resident me n ≠ none →
         bits (t.rd32 (at' + 4 * n)) 15 0 = binRow t.xe l.layer n % 65536)) ∧
    (b.kind = 2 → (t.layerSt l.layer).sent = (s.layerSt l.layer).sent.map (fun a => if a.fate = .sent then { a with fate := .lost } else a) ∧
      t.xe.bins = s.xe.bins ∧ sameMem s t)) ∧
  meets (fun isA q f h b l g s => unfinished b g → Completes (come isA q f) s fun t =>
    let ts := tokensOf isA f h
    let waits := ∃ k, ts.head? = some k ∧ if control k then controlFits b g k = false else foreign b g f s
    let full := b.kind = 0 ∧ g.complete 0 = false ∧ binsFull s l g.src ts = true
    let kept := fun bin : Bool => ∃ w, t.xe = { s.xe with pairs := [w] } ∧ w.src = f.src ∧ w.pair = f.aux ∧ w.win = f.win ∧ w.full = bin
    onlyXe s t ∧ (waits → kept false ∧ sameMem s t) ∧ (¬waits → full → kept true ∧ t.flag Reg.xeFlags 2 = true ∧ sameMem s t) ∧
    (¬waits → ¬full → t.xe.pairs = []) ∧
    (¬waits → ¬full → ∀ k, ts = [k] → control k →
      let counts := (List.range 16).map fun i => field k.row (8 + 2 * i) 2
      t.xe.inbound = some (b.withSeg g.src fun x => { x with total := some (field k.row 0 4), pairHdr := f.aux, counts := counts }) ∧
      (b.kind = 0 → t.xe.layers = s.xe.layers ∧ sameMem s t) ∧
      (b.kind = 1 → 1024 ≤ b.bytes → inOneRange b.recv 1024 = true → regionOf b.recv ≠ some .mram → 1 ≤ g.src → g.src ≤ 32 →
        40 ≤ k.row.length → t.rdBytes (b.recv + 32 * (g.src - 1)) 32 = (k.row.drop 8).take 32 ∧
        ∀ a, ¬insideOf (b.recv + 32 * (g.src - 1)) 32 a → t.rd8 a = s.rd8 a) ∧
      (b.kind = 2 → sameMem s t ∧ (t.layerSt l.layer).sent = (s.layerSt l.layer).sent.map fun a =>
        if a.dest = g.src ∧ (BitVec.ofNat 8 (field k.row (8 + (2 * a.token + a.rank) / 8) 1)).getLsbD ((2 * a.token + a.rank) % 8) = true
        then { a with fate := .dropped } else a)) ∧
    (¬waits → ¬full → b.kind = 0 → (∀ k ∈ ts, ¬control k) → fits l g s ts →
      t.xe.inbound = some (b.withSeg g.src fun x => { x with got := x.got + ts.length }) ∧
      (∀ n, binRow t.xe l.layer n = binRow s.xe l.layer n + tokensFor s l g.src ts n) ∧
      (t.layerSt l.layer).placed =
        (s.layerSt l.layer).placed ++ ts.filterMap fun k => (outExpert s l g.src k).map fun e => (e.slot, k.tag)) ∧
    (¬waits → ¬full → b.kind = 0 → ∀ k e, ts = [k] → outExpert s l g.src k = some e → fits l g s ts → k.row.length = l.w →
      let j := binRow s.xe l.layer e.slot
      j < e.slots → inOneRange e.bin (wireTag e.slots l.w e.slots) = true → regionOf e.bin ≠ some .mram →
      TokenAt t e.bin e.slots l.w j k ∧
      ∀ a, ¬insideOf (e.bin + j * l.w) l.w a → a ≠ e.bin + wireScale e.slots l.w j → ¬insideOf (e.bin + wireTag e.slots l.w j) 4 a →
        t.rd8 a = s.rd8 a) ∧
    (¬waits → b.kind = 1 → (∀ k ∈ ts, ¬control k) → fits l g s ts →
      (g.total = none → t.xe.inbound = some b) ∧
      (g.total ≠ none → t.xe.inbound = some { b.withSeg g.src fun x => { x with got := x.got + ts.length } with
        arrived := b.arrived ++ ((List.range ts.length).zip ts).map fun x =>
          { src := g.src, pos := (f.aux - g.pairHdr - 1).toNat * l.perPair + x.1, tag := x.2.tag, scale := x.2.scale, row := x.2.row } }) ∧
      t.xe.layers = s.xe.layers ∧ sameMem s t) ∧
    (¬waits → ¬full → b.kind ≤ 1 → ∀ k, ts = [k] → ¬control k →
      outExpert s l g.src k = none ∨ (∃ n, g.total = some n ∧ n ≤ g.got) →
      t.flag Reg.xeFlags 4 = true ∧ t.xe = s.xe ∧ sameMem s t) ∧
    (¬waits → b.kind = 2 → ∀ k, ts = [k] → ¬control k →
      let mine := fun a : Assign => a.token = tagToken k.tag ∧ a.rank = tagRank k.tag ∧ a.expert = tagExpert k.tag ∧ a.dest = g.src
      let here := tagMark k.tag = 0 ∧ tagSrc k.tag = s.link.addr.toNat ∧ ∀ n, g.total = some n → g.got < n
      let start := b.recv + tagRank k.tag * (b.bytes / 2)
      (¬here → t.flag Reg.xeFlags 4 = true ∧ t.xe = s.xe ∧ sameMem s t) ∧
      (here → t.xe.inbound = some (b.withSeg g.src fun x => { x with got := x.got + 1 })) ∧
      (here → (∀ a ∈ (s.layerSt l.layer).sent, ¬mine a) → t.xe.layers = s.xe.layers ∧ sameMem s t) ∧
      (here → ∀ before a after, (s.layerSt l.layer).sent = before ++ a :: after → mine a → a.fate = .sent →
        (∀ x ∈ before, ¬(mine x ∧ x.fate = .sent)) →
        (t.layerSt l.layer).sent = before ++ { a with fate := .returned } :: after ∧
        (k.row.length = l.w → a.token < a.rows → inOneRange start (up16 (a.rows * l.w) + a.rows) = true → regionOf start ≠ some .mram →
          t.rdBytes (start + a.token * l.w) l.w = k.row ∧ t.rd8 (start + wireScale a.rows l.w a.token) = k.scale ∧
          ∀ x, ¬insideOf (start + a.token * l.w) l.w x → x ≠ start + wireScale a.rows l.w a.token → t.rd8 x = s.rd8 x)))) ∧
  meets (fun isA q f h b l g s => b.kind = 0 → b.fc < 64 → (∀ x ∈ b.segs, x.src ≠ g.src → x.complete 0 = true) →
    (∀ x ∈ b.segs, x.src = g.src → x = g) → binsFull s l g.src (tokensOf isA f h) = false →
    ∀ k e n, tokensOf isA f h = [k] → outExpert s l g.src k = some e → g.total = some n → g.got + 1 = n → Completes (come isA q f) s fun t =>
      InboundEnded b s t ∧ t.flag Reg.xeFlags 3 = s.flag Reg.xeFlags 3 ∧ t.tick = s.tick ∧ t.flt = s.flt)

/-- Narrowing rounds to nearest with ties away from zero and clamps to the format's range; a value that a format holds is left as it is; a
NaN becomes the format's NaN, or its largest value, and an infinity the format's own or its largest finite value (R402, R406 to R411). -/
def Obligations.NarrowingRoundsAndClamps : Prop :=
  (∀ f code, f ≤ 8 → code < 2 ^ fmtBits f → numOf f code ≠ .nan → narrow f (numOf f code) = ⟨code, false, false⟩) ∧
  (∀ f neg m (k : Nat), f ≤ 4 → ∃ r : Nat, 2 * r * 2 ^ k ≤ 2 * m + 2 ^ k ∧ 2 * m + 2 ^ k < 2 * (r + 1) * 2 ^ k ∧
    let v : Int := if neg = true then -(r : Int) else r
    let w := max (intRange f).1 (min (intRange f).2 v)
    narrow f (.fin neg m (-(k : Int))) = ⟨(w % 2 ^ fmtBits f).toNat, decide (w ≠ v), false⟩) ∧
  (∀ f, f ≤ 4 → narrow f .nan = ⟨(intRange f).2.toNat, false, true⟩ ∧ narrow f (.inf false) = ⟨(intRange f).2.toNat, true, false⟩ ∧
    narrow f (.inf true) = ⟨((intRange f).1 % 2 ^ fmtBits f).toNat, true, false⟩) ∧
  (narrow Fmt.e4m3 .nan = ⟨0x7F, false, true⟩ ∧ narrow Fmt.e5m2 .nan = ⟨0x7F, false, true⟩ ∧ narrow Fmt.bf16 .nan = ⟨0x7FC0, false, true⟩ ∧
    narrow Fmt.fp32 .nan = ⟨0x7FC00000, false, true⟩) ∧
  (∀ neg, narrow Fmt.e4m3 (.inf neg) = ⟨(if neg = true then 0x80 else 0) + 0x7E, true, false⟩ ∧
    narrow Fmt.bf16 (.inf neg) = ⟨(if neg = true then 0x8000 else 0) + 0x7F80, false, false⟩)

/-- Every step keeps memory and registers well formed: canonical, within the ranges of Table 0-4, and with reserved fields 0 (R9, R10, R16). -/
def Obligations.StepKeepsSafe : Prop :=
  ∀ s t, s.safe → step s = .next t → t.safe

/-- At the end of a reset every register holds its reset value, memory lists nothing, no command waits, and the state is well formed; the
levels and counts that registers read from the units stand at their reset values too (R737). Model's choices: unlisted memory reads 0 (log entry
5), and the straps are those of open pins and the cause is PIN (log entry 3). -/
def Obligations.ResetStateStands : Prop :=
  State.reset.safe ∧ banksOrdered State.reset ∧ State.reset.pending = [] ∧ (∀ a, (regionOf a).isSome = true → State.reset.rd8 a = 0) ∧
  (∀ a, State.reset.stored a = if a = Reg.pwrRstCause then 1 else resetWord a) ∧
  ([(Reg.tickCtrl, 0), (Reg.tickPeriod, 33333), (Reg.tickNum, 0), (Reg.tickOffset, 0), (Reg.tickStat, 0), (Reg.stgStat, 0), (Reg.fltSum, 0), (Reg.hpQstat, 0),
    (Reg.adcACal, 0x4000)] : List (Nat × Word)).all (fun x => State.reset.readReg x.1 == x.2) = true

/-- Every command completes in every state: none is refused and none stops, and none changes the fuses, the queue behind it or the clock. A
cycle without a command passes 10 ns: each port puts its first ordered set on its lanes, or a TRAIN set while it trains, the meters run in
WATCH and RUN, a pair whose WIN has passed leaves the buffer, and balls are sampled, which sets EDGEn where a level that nothing holds has
moved (R128, R132, R135, R165, R277, R278, R461, R665, R667). Model's choices: the clock stands still while commands wait (log entry 1), a
cycle carries one ordered set per port (log entry 62), what the domains draw is free (log entry 12), and so is a level that nothing
holds (log entry 95); the trace buffer is that of one instant (log entry 63). -/
def Obligations.CommandsCompleteAlways : Prop :=
  (∀ c s, ∃ t, exec c s = .next t ∧ t.fuse = s.fuse ∧ t.pending = s.pending ∧ t.now = s.now ∧ s.free ≤ t.free) ∧
  (∀ s, s.pending = [] → ∃ t, step s = .next t ∧ t.now = s.now + 10 ∧ t.mem = s.mem ∧ t.fuse = s.fuse ∧ t.pending = [] ∧
    (let u := { s with now := s.now + 10 }
     let edge := fun n => s.gpioLevel n ≠ u.gpioLevel n ∧ s.edgeSelected n (u.gpioLevel n) = true
     (∀ n < 8, t.flag Reg.pmGpioFlags n = true ↔ s.flag Reg.pmGpioFlags n = true ∨ edge n) ∧
     ((∀ n < 8, ¬edge n) → t.cycle = Cycle.empty ∧ ((∀ p, (s.port p).up = true ∨ s.portUsed p = false) →
       (∀ q ∈ s.xe.pairs, winPassed s q.win = false) → s.adc.crossDue = none → t.regs = s.regs)) ∧
     ∀ n < 16, u.ainDigital n = true → t.pins.ainBit.getLsbD n = u.ainLevel n) ∧
    t.units.trace.buffered = 0 ∧ t.xe = { s.xe with pairs := s.xe.pairs.filter fun p => !winPassed s p.win } ∧
    (∀ p, s.portUsed p = true → (s.port p).up = false → (s.port p).osets = [] → (∀ n, (s.port p).trainTx = some n → n < 15) →
      (t.port p).sent = [.set ⟨0x10, [0, s.link.addr.setWidth 8, BitVec.ofNat 8 s.product, 0, 0]⟩] ∧
        (t.port p).trainTx = (s.port p).trainTx.map fun n => n + 1) ∧
    ((∀ p, (s.port p).up = true ∨ s.portUsed p = false) → (∀ q ∈ s.xe.pairs, winPassed s q.win = false) → s.adc.crossDue = none →
      (∀ p, t.port p = { s.port p with
        sent := ((s.port p).osets.head?.map WireItem.set).toList, osets := (s.port p).osets.tail
        txRd0 := laneDisparity (s.port p).txRd0 (s.port p).lanes.lane0, txRd1 := laneDisparity (s.port p).txRd1 (s.port p).lanes.lane1 }) ∧
      t.en = (if s.pwr.level = .keep then s.en else
        let e := { s.en with acc := addSpend s.en.acc (Config.drawn s.free) }
        if (s.now + 10) % 10000 = 0 then { e with shown := e.running } else e) ∧
      t.units = { s.units with
        en := t.en, trace := { s.units.trace with buffered := 0 }, pins := { s.pins with ainBit := t.pins.ainBit }
        link := { s.link with upPort := t.link.upPort, dnPort := t.link.dnPort } }))

/-- Staged fields change only with a set that becomes live: at an edge, at a commit, at the end of ticking, at boot and at a reset. A latch
of the reflex is cleared only by HALT_RELEASE, by auto-release or by a reset. Packets that carry a request count as that request, and so
do the symbols or bytes of one, and the end of a calibration step for which requests wait (R14, R15, R32, R634). -/
def Obligations.StagedFieldsAndLatchesHold : Prop :=
  let resets : Instr → Prop := fun c => match c with
    | .resetNAssert _ | .brownOut _ | .wdt | .bootWdt | .resetNodeDelayExpiry => True
    | _ => False
  let commits : Instr → Prop := fun c => match c with
    | .tickEdge _ | .freeRunPassEnd _ | .endOfTicking | .tickEnSet | .commit _ | .keeperUp _ _ | .reflexArmed _ | .regWr _ | .registerWrite _ _ => True
    | _ => False
  let carries : Instr → Prop := fun c => match c with
    | .hpWriteRequest _ | .pkt _ _ | .badFrame _ _ | .edbFrame _ | .unknownCommandByte _ | .adcCalStepComplete _ _ _ => True
    | _ => False
  let releases : Instr → Prop := fun c => match c with
    | .haltRelease _ | .autoRelease _ => True
    | _ => False
  (∀ c s t, s.safe → exec c s = .next t → ¬resets c → ¬commits c → ¬carries c → ∀ a, t.stored a &&& stagedMask a = s.stored a &&& stagedMask a) ∧
  (∀ c s t, exec c s = .next t → ¬resets c → ¬carries c → ¬releases c → s.rfx.latch &&& ~~~t.rfx.latch = 0)

/-- Every step keeps the bounds of what the node holds: the bank and the pending set hold one shadow of a register, a tag window at most
eight TAGs, and the fault log at most 256 records, whose next SEQ is never 0 (R227, R236, R689, R690). -/
def Obligations.StepKeepsBounds : Prop :=
  let ok := fun s : State => banksOrdered s ∧ s.hp.winHost.length ≤ 8 ∧ s.hp.winRow.length ≤ 8 ∧ s.flt.log.length ≤ 256 ∧
    1 ≤ s.flt.seq ∧ s.flt.seq ≤ 65535
  ok State.reset ∧ ∀ s t, ok s → step s = .next t → ok t
end

