-- ==== Sys2Proof/Laws/Bytes.lean ====
section
/-! SUPPORT. Little-endian numbers and the fields of packets. -/

namespace Sys2Proof.Machine

@[simp] theorem leBytes_length (n v : Nat) : (leBytes n v).length = n := by
  induction n generalizing v with
  | zero => rfl
  | succ n ih => simp [leBytes, ih]

theorem leNat_leBytes (n v : Nat) : leNat (leBytes n v) = v % 256 ^ n := by
  induction n generalizing v with
  | zero => simp [leBytes, leNat, Nat.mod_one]
  | succ n ih =>
    have h : v % 256 ^ (n + 1) = v % 256 + 256 * (v / 256 % 256 ^ n) := by
      rw [show 256 ^ (n + 1) = 256 * 256 ^ n by ring, Nat.mod_mul]
    rw [leBytes, leNat, ih, BitVec.toNat_ofNat, h]

theorem leNat_lt (l : List Byte) : leNat l < 256 ^ l.length := by
  induction l with
  | nil => simp [leNat]
  | cons b t ih =>
    simp only [leNat, List.length_cons, Nat.pow_succ]
    have := b.isLt
    omega

/-- The field that begins a list of bytes. -/
theorem field_head (n v : Nat) (rest : List Byte) : field (leBytes n v ++ rest) 0 n = v % 256 ^ n := by
  simp [field, leNat_leBytes]

/-- A field behind a prefix. -/
theorem field_append (pre rest : List Byte) (off n : Nat) (h : pre.length ≤ off) :
    field (pre ++ rest) off n = field rest (off - pre.length) n := by
  simp [field, List.drop_append, List.drop_eq_nil_of_le h]

theorem wordBytes_length (w : Word) : (wordBytes w).length = 4 := by simp [wordBytes]

theorem leNat_wordBytes (w : Word) : leNat (wordBytes w) = w.toNat := by
  have h := w.isLt
  rw [wordBytes, leNat_leBytes]
  exact Nat.mod_eq_of_lt (by simpa using h)

theorem all_zero (l : List Byte) : (l.all fun b => b == 0) = decide (leNat l = 0) := by
  induction l with
  | nil => rfl
  | cons b t ih =>
    have h : (b == 0) = decide (b.toNat = 0) := by
      rw [Bool.eq_iff_iff]
      simp [← BitVec.toNat_inj]
    rw [List.all_cons, ih, h, leNat, ← Bool.decide_and]
    congr 1
    rw [eq_iff_iff]
    omega

/-- Reserved bytes are 0 when the number they spell is. -/
theorem zeroAt_eq (bs : List Byte) (off n : Nat) : zeroAt bs off n = decide (field bs off n = 0) := all_zero _

end Sys2Proof.Machine
end

