-- ==== Sys2Proof/Laws/Memory.lean ====
section
/-! SUPPORT. Laws of the ascending lists that hold registers and memory: read after write, and the canonical form. -/

namespace Sys2Proof.Machine

variable {β : Type} [DecidableEq β] {d : Nat → β}

omit [DecidableEq β] in
theorem AMap.get_cons (k' k : Nat) (v : β) (t : List (Nat × β)) :
    AMap.get d ((k', v) :: t) k = if k = k' then v else AMap.get d t k := rfl

theorem AMap.get_below {lo k : Nat} {m : List (Nat × β)} (h : AMap.canonFrom d lo m = true) (hk : k < lo) :
    AMap.get d m k = d k := by
  induction m generalizing lo with
  | nil => rfl
  | cons e t ih =>
    obtain ⟨k', v⟩ := e
    simp only [AMap.canonFrom, Bool.and_eq_true, decide_eq_true_eq] at h
    rw [AMap.get_cons, if_neg (by omega), ih h.2 (by omega)]

theorem AMap.canonFrom_mono {lo lo' : Nat} {m : List (Nat × β)} (h : AMap.canonFrom d lo m = true) (hl : lo' ≤ lo) :
    AMap.canonFrom d lo' m = true := by
  cases m with
  | nil => rfl
  | cons e t =>
    simp only [AMap.canonFrom, Bool.and_eq_true, decide_eq_true_eq] at h ⊢
    exact ⟨⟨by omega, h.1.2⟩, h.2⟩

theorem AMap.put_canon {lo k : Nat} {m : List (Nat × β)} {v : β} (h : AMap.canonFrom d lo m = true) (hk : lo ≤ k) :
    AMap.canonFrom d lo (AMap.put d m k v) = true := by
  induction m generalizing lo with
  | nil =>
    unfold AMap.put
    split <;> simp_all [AMap.canonFrom]
  | cons e t ih =>
    obtain ⟨k', v'⟩ := e
    have h' := h
    simp only [AMap.canonFrom, Bool.and_eq_true, decide_eq_true_eq] at h'
    unfold AMap.put
    split
    · split
      · exact h
      · simp only [AMap.canonFrom, Bool.and_eq_true, decide_eq_true_eq]
        exact ⟨⟨hk, ‹_›⟩, ⟨by omega, h'.1.2⟩, h'.2⟩
    · split
      · rename_i hkk
        split
        · exact AMap.canonFrom_mono h'.2 (by omega)
        · simp only [AMap.canonFrom, Bool.and_eq_true, decide_eq_true_eq]
          exact ⟨⟨hk, ‹_›⟩, hkk ▸ h'.2⟩
      · simp only [AMap.canonFrom, Bool.and_eq_true, decide_eq_true_eq]
        exact ⟨⟨h'.1.1, h'.1.2⟩, ih h'.2 (by omega)⟩

theorem AMap.get_put_same {lo k : Nat} {m : List (Nat × β)} {v : β} (h : AMap.canonFrom d lo m = true) :
    AMap.get d (AMap.put d m k v) k = v := by
  induction m generalizing lo with
  | nil =>
    unfold AMap.put
    split <;> simp_all [AMap.get]
  | cons e t ih =>
    obtain ⟨k', v'⟩ := e
    have h' := h
    simp only [AMap.canonFrom, Bool.and_eq_true, decide_eq_true_eq] at h'
    unfold AMap.put
    split
    · split
      · rw [AMap.get_cons, if_neg (by omega), AMap.get_below h'.2 (by omega), ‹v = d k›]
      · simp [AMap.get]
    · split
      · rename_i hkk
        split
        · rw [AMap.get_below h'.2 (by omega), ‹v = d k›]
        · simp [AMap.get]
      · rw [AMap.get_cons, if_neg ‹_›, ih h'.2]

theorem AMap.get_put_ne {k j : Nat} {m : List (Nat × β)} {v : β} (hj : j ≠ k) :
    AMap.get d (AMap.put d m k v) j = AMap.get d m j := by
  induction m with
  | nil =>
    unfold AMap.put
    split <;> simp [AMap.get, hj]
  | cons e t ih =>
    obtain ⟨k', v'⟩ := e
    unfold AMap.put
    split
    · split
      · rfl
      · rw [AMap.get_cons, if_neg hj]
    · split
      · rename_i hkk
        split
        · rw [AMap.get_cons, if_neg (by omega)]
        · rw [AMap.get_cons, AMap.get_cons, if_neg hj, if_neg (by omega)]
      · rw [AMap.get_cons, AMap.get_cons, ih]

/-- An entry of a list after a put is the new pair or stood there before. -/
theorem AMap.mem_put {k : Nat} {m : List (Nat × β)} {v : β} {e : Nat × β} (h : e ∈ AMap.put d m k v) : e = (k, v) ∨ e ∈ m := by
  induction m with
  | nil =>
    unfold AMap.put at h
    split at h <;> simp_all
  | cons e' t ih =>
    obtain ⟨k', v'⟩ := e'
    unfold AMap.put at h
    split at h
    · split at h <;> simp_all
    · split at h
      · split at h
        · exact .inr (List.mem_cons_of_mem _ h)
        · rcases List.mem_cons.mp h with h | h
          · exact .inl h
          · exact .inr (List.mem_cons_of_mem _ h)
      · rcases List.mem_cons.mp h with h | h
        · exact .inr (h ▸ List.mem_cons_self ..)
        · rcases ih h with h | h
          · exact .inl h
          · exact .inr (List.mem_cons_of_mem _ h)

theorem AMap.filter_canon {lo : Nat} {m : List (Nat × β)} (p : Nat × β → Bool) (h : AMap.canonFrom d lo m = true) :
    AMap.canonFrom d lo (m.filter p) = true := by
  induction m generalizing lo with
  | nil => rfl
  | cons e t ih =>
    have h' := h
    simp only [AMap.canonFrom, Bool.and_eq_true, decide_eq_true_eq] at h'
    rw [List.filter_cons]
    split
    · simp only [AMap.canonFrom, Bool.and_eq_true, decide_eq_true_eq]
      exact ⟨h'.1, ih h'.2⟩
    · exact AMap.canonFrom_mono (ih h'.2) (by omega)

/-- What a filter by key leaves of a canonical list. -/
theorem AMap.get_filter {lo k : Nat} {m : List (Nat × β)} (p : Nat → Bool) (h : AMap.canonFrom d lo m = true) :
    AMap.get d (m.filter fun e => p e.1) k = if p k then AMap.get d m k else d k := by
  induction m generalizing lo with
  | nil => simp [AMap.get]
  | cons e t ih =>
    obtain ⟨k', v⟩ := e
    have h' := h
    simp only [AMap.canonFrom, Bool.and_eq_true, decide_eq_true_eq] at h'
    rw [List.filter_cons]
    by_cases hk : k = k'
    · subst hk
      by_cases hp : p k = true
      · simp [hp, AMap.get]
      · simp only [hp]
        rw [if_neg (by simpa using hp), ih h'.2]
        simp [hp]
    · split
      · rw [AMap.get_cons, AMap.get_cons, if_neg hk, if_neg hk, ih h'.2]
      · rw [AMap.get_cons, if_neg hk, ih h'.2]

theorem Memory.write_wf {m : List Host.Cell} {a : Nat} {v : Byte} (h : Memory.wf m = true) : Memory.wf (Memory.write m a v) = true := by
  unfold Memory.write
  split
  · exact AMap.put_canon h (Nat.zero_le _)
  · exact h

theorem Memory.writeAll_wf {m : List Host.Cell} {a : Nat} {bs : List Byte} (h : Memory.wf m = true) :
    Memory.wf (Memory.writeAll m a bs) = true := by
  induction bs generalizing m a with
  | nil => exact h
  | cons b t ih => exact ih (Memory.write_wf h)

theorem Memory.lose_wf {m : List Host.Cell} {lo hi : Nat} (h : Memory.wf m = true) : Memory.wf (Memory.lose m lo hi) = true :=
  AMap.filter_canon _ h

theorem Memory.read_write_same {m : List Host.Cell} {a : Nat} {v : Byte} (h : Memory.wf m = true) (ha : (regionOf a).isSome = true) :
    Memory.read (Memory.write m a v) a = v := by
  unfold Memory.write Memory.read
  rw [if_pos ha]
  exact AMap.get_put_same h

theorem Memory.read_write_ne {m : List Host.Cell} {a b : Nat} {v : Byte} (hb : b ≠ a) :
    Memory.read (Memory.write m a v) b = Memory.read m b := by
  unfold Memory.write Memory.read
  split
  · exact AMap.get_put_ne hb
  · rfl

/-- A write of bytes leaves every other byte alone. -/
theorem Memory.read_writeAll_out {m : List Host.Cell} {a b : Nat} {bs : List Byte} (hb : b < a ∨ a + bs.length ≤ b) :
    Memory.read (Memory.writeAll m a bs) b = Memory.read m b := by
  induction bs generalizing m a with
  | nil => rfl
  | cons x t ih =>
    simp only [List.length_cons] at hb
    show Memory.read (Memory.writeAll (Memory.write m a x) (a + 1) t) b = _
    rw [ih (by omega), Memory.read_write_ne (by omega)]

/-- Every byte of a write to mapped memory reads back. -/
theorem Memory.read_writeAll_in {m : List Host.Cell} {a i : Nat} {bs : List Byte} (h : Memory.wf m = true)
    (hr : ∀ j, j < bs.length → (regionOf (a + j)).isSome = true) (hi : i < bs.length) :
    Memory.read (Memory.writeAll m a bs) (a + i) = bs[i] := by
  induction bs generalizing m a i with
  | nil => simp at hi
  | cons x t ih =>
    show Memory.read (Memory.writeAll (Memory.write m a x) (a + 1) t) (a + i) = _
    cases i with
    | zero =>
      rw [Memory.read_writeAll_out (by omega)]
      exact Memory.read_write_same h (hr 0 (by simp))
    | succ n =>
      have := ih (m := Memory.write m a x) (a := a + 1) (i := n) (Memory.write_wf h)
        (fun j hj => by have := hr (j + 1) (by simp; omega); rwa [show a + 1 + j = a + (j + 1) by omega])
        (by simpa using hi)
      rw [show a + (n + 1) = a + 1 + n by omega]
      simpa using this

/-- Memory that is lost reads as the unlisted value; the rest stays. -/
theorem Memory.read_lose {m : List Host.Cell} {lo hi a : Nat} (h : Memory.wf m = true) :
    Memory.read (Memory.lose m lo hi) a = if lo ≤ a ∧ a < hi then 0 else Memory.read m a := by
  have := AMap.get_filter (d := Memory.unlisted) (k := a) (fun k => decide (k < lo) || decide (hi ≤ k)) h
  unfold Memory.read Memory.lose
  rw [this]
  by_cases h1 : lo ≤ a ∧ a < hi
  · rw [if_neg (by simp; omega), if_pos h1]; rfl
  · rw [if_pos (by simp; omega), if_neg h1]

end Sys2Proof.Machine
end

