-- ==== Sys2Proof/Laws/State.lean ====
section
/-! SUPPORT. What each primitive change of a state does to each of its parts: one lemma a part and change, true by computation. -/

namespace Sys2Proof.Machine

@[simp] theorem run_skip (s : State) : Prog.skip.run s = s := rfl
@[simp] theorem run_seq (p q : Prog) (s : State) : (Prog.seq p q).run s = q.run (p.run s) := rfl
@[simp] theorem run_look (k : State → Prog) (s : State) : (Prog.look k).run s = (k s).run s := rfl
@[simp] theorem run_all_nil (s : State) : (Prog.all []).run s = s := rfl
@[simp] theorem run_all_cons (p : Prog) (t : List Prog) (s : State) : (Prog.all (p :: t)).run s = (Prog.all t).run (p.run s) := rfl
@[simp] theorem run_when_true (p : Prog) (s : State) : (Prog.when true p).run s = p.run s := rfl
@[simp] theorem run_when_false (p : Prog) (s : State) : (Prog.when false p).run s = s := rfl
theorem run_when (b : Bool) (p : Prog) (s : State) : (Prog.when b p).run s = if b then p.run s else s := by cases b <;> rfl
@[simp] theorem run_each_nil {α : Type} (f : α → Prog) (s : State) : (Prog.each [] f).run s = s := rfl
@[simp] theorem run_each_cons {α : Type} (x : α) (l : List α) (f : α → Prog) (s : State) :
    (Prog.each (x :: l) f).run s = (Prog.each l f).run ((f x).run s) := rfl
@[simp] theorem run_times_zero (p : Prog) (s : State) : (Prog.times 0 p).run s = s := rfl
@[simp] theorem run_times_succ (n : Nat) (p : Prog) (s : State) : (Prog.times (n + 1) p).run s = (Prog.times n p).run (p.run s) := rfl
@[simp] theorem next_run (p : Prog) (s : State) : p.next s = .next (p.run s) := rfl

@[simp] theorem units_units (f : Units → Units) (s : State) : ((.units f : Prog).run s).units = f s.units := rfl
@[simp] theorem units_regs (f : Units → Units) (s : State) : ((.units f : Prog).run s).regs = s.regs := rfl
@[simp] theorem units_mem (f : Units → Units) (s : State) : ((.units f : Prog).run s).mem = s.mem := rfl
@[simp] theorem units_fuse (f : Units → Units) (s : State) : ((.units f : Prog).run s).fuse = s.fuse := rfl
@[simp] theorem units_now (f : Units → Units) (s : State) : ((.units f : Prog).run s).now = s.now := rfl
@[simp] theorem units_free (f : Units → Units) (s : State) : ((.units f : Prog).run s).free = s.free := rfl
@[simp] theorem units_pending (f : Units → Units) (s : State) : ((.units f : Prog).run s).pending = s.pending := rfl
@[simp] theorem reg_units (a : Nat) (v : Word) (s : State) : ((.reg a v : Prog).run s).units = s.units := rfl
@[simp] theorem reg_regs (a : Nat) (v : Word) (s : State) : ((.reg a v : Prog).run s).regs = AMap.put resetWord s.regs a (v &&& heldMask a) := rfl
@[simp] theorem reg_mem (a : Nat) (v : Word) (s : State) : ((.reg a v : Prog).run s).mem = s.mem := rfl
@[simp] theorem reg_fuse (a : Nat) (v : Word) (s : State) : ((.reg a v : Prog).run s).fuse = s.fuse := rfl
@[simp] theorem reg_now (a : Nat) (v : Word) (s : State) : ((.reg a v : Prog).run s).now = s.now := rfl
@[simp] theorem reg_free (a : Nat) (v : Word) (s : State) : ((.reg a v : Prog).run s).free = s.free := rfl
@[simp] theorem reg_pending (a : Nat) (v : Word) (s : State) : ((.reg a v : Prog).run s).pending = s.pending := rfl
@[simp] theorem mem_units (a : Nat) (bs : List Byte) (s : State) : ((.mem a bs : Prog).run s).units = s.units := rfl
@[simp] theorem mem_regs (a : Nat) (bs : List Byte) (s : State) : ((.mem a bs : Prog).run s).regs = s.regs := rfl
@[simp] theorem mem_mem (a : Nat) (bs : List Byte) (s : State) : ((.mem a bs : Prog).run s).mem = Memory.writeAll s.mem a bs := rfl
@[simp] theorem mem_fuse (a : Nat) (bs : List Byte) (s : State) : ((.mem a bs : Prog).run s).fuse = s.fuse := rfl
@[simp] theorem mem_now (a : Nat) (bs : List Byte) (s : State) : ((.mem a bs : Prog).run s).now = s.now := rfl
@[simp] theorem mem_free (a : Nat) (bs : List Byte) (s : State) : ((.mem a bs : Prog).run s).free = s.free := rfl
@[simp] theorem mem_pending (a : Nat) (bs : List Byte) (s : State) : ((.mem a bs : Prog).run s).pending = s.pending := rfl
@[simp] theorem lose_units (lo hi : Nat) (s : State) : ((.lose lo hi : Prog).run s).units = s.units := rfl
@[simp] theorem lose_regs (lo hi : Nat) (s : State) : ((.lose lo hi : Prog).run s).regs = s.regs := rfl
@[simp] theorem lose_mem (lo hi : Nat) (s : State) : ((.lose lo hi : Prog).run s).mem = Memory.lose s.mem lo hi := rfl
@[simp] theorem lose_fuse (lo hi : Nat) (s : State) : ((.lose lo hi : Prog).run s).fuse = s.fuse := rfl
@[simp] theorem lose_now (lo hi : Nat) (s : State) : ((.lose lo hi : Prog).run s).now = s.now := rfl
@[simp] theorem lose_free (lo hi : Nat) (s : State) : ((.lose lo hi : Prog).run s).free = s.free := rfl
@[simp] theorem lose_pending (lo hi : Nat) (s : State) : ((.lose lo hi : Prog).run s).pending = s.pending := rfl
@[simp] theorem draw_units (s : State) : ((.draw : Prog).run s).units = s.units := rfl
@[simp] theorem draw_regs (s : State) : ((.draw : Prog).run s).regs = s.regs := rfl
@[simp] theorem draw_mem (s : State) : ((.draw : Prog).run s).mem = s.mem := rfl
@[simp] theorem draw_fuse (s : State) : ((.draw : Prog).run s).fuse = s.fuse := rfl
@[simp] theorem draw_now (s : State) : ((.draw : Prog).run s).now = s.now := rfl
@[simp] theorem draw_free (s : State) : ((.draw : Prog).run s).free = s.free + 1 := rfl
@[simp] theorem draw_pending (s : State) : ((.draw : Prog).run s).pending = s.pending := rfl
@[simp] theorem note_units (f : Cycle → Cycle) (s : State) : ((.note f : Prog).run s).units = s.units := rfl
@[simp] theorem note_regs (f : Cycle → Cycle) (s : State) : ((.note f : Prog).run s).regs = s.regs := rfl
@[simp] theorem note_mem (f : Cycle → Cycle) (s : State) : ((.note f : Prog).run s).mem = s.mem := rfl
@[simp] theorem note_fuse (f : Cycle → Cycle) (s : State) : ((.note f : Prog).run s).fuse = s.fuse := rfl
@[simp] theorem note_now (f : Cycle → Cycle) (s : State) : ((.note f : Prog).run s).now = s.now := rfl
@[simp] theorem note_free (f : Cycle → Cycle) (s : State) : ((.note f : Prog).run s).free = s.free := rfl
@[simp] theorem note_pending (f : Cycle → Cycle) (s : State) : ((.note f : Prog).run s).pending = s.pending := rfl
@[simp] theorem note_cycle (f : Cycle → Cycle) (s : State) : ((.note f : Prog).run s).cycle = f s.cycle := rfl
@[simp] theorem note_stored (f : Cycle → Cycle) (s : State) (x : Nat) : ((.note f : Prog).run s).stored x = s.stored x := rfl
@[simp] theorem note_rd8 (f : Cycle → Cycle) (s : State) (x : Nat) : ((.note f : Prog).run s).rd8 x = s.rd8 x := rfl
@[simp] theorem units_cycle (f : Units → Units) (s : State) : ((.units f : Prog).run s).cycle = s.cycle := rfl
@[simp] theorem reg_cycle (a : Nat) (v : Word) (s : State) : ((.reg a v : Prog).run s).cycle = s.cycle := rfl
@[simp] theorem mem_cycle (a : Nat) (bs : List Byte) (s : State) : ((.mem a bs : Prog).run s).cycle = s.cycle := rfl
@[simp] theorem lose_cycle (lo hi : Nat) (s : State) : ((.lose lo hi : Prog).run s).cycle = s.cycle := rfl
@[simp] theorem draw_cycle (s : State) : ((.draw : Prog).run s).cycle = s.cycle := rfl

@[simp] theorem modPwr_pwr (f : Pwr → Pwr) (s : State) : ((modPwr f).run s).units.pwr = f s.units.pwr := rfl
@[simp] theorem modPwr_tick (f : Pwr → Pwr) (s : State) : ((modPwr f).run s).units.tick = s.units.tick := rfl
@[simp] theorem modPwr_stg (f : Pwr → Pwr) (s : State) : ((modPwr f).run s).units.stg = s.units.stg := rfl
@[simp] theorem modPwr_hp (f : Pwr → Pwr) (s : State) : ((modPwr f).run s).units.hp = s.units.hp := rfl
@[simp] theorem modPwr_link (f : Pwr → Pwr) (s : State) : ((modPwr f).run s).units.link = s.units.link := rfl
@[simp] theorem modPwr_en (f : Pwr → Pwr) (s : State) : ((modPwr f).run s).units.en = s.units.en := rfl
@[simp] theorem modPwr_eng (f : Pwr → Pwr) (s : State) : ((modPwr f).run s).units.eng = s.units.eng := rfl
@[simp] theorem modPwr_dsp (f : Pwr → Pwr) (s : State) : ((modPwr f).run s).units.dsp = s.units.dsp := rfl
@[simp] theorem modPwr_xe (f : Pwr → Pwr) (s : State) : ((modPwr f).run s).units.xe = s.units.xe := rfl
@[simp] theorem modPwr_qs (f : Pwr → Pwr) (s : State) : ((modPwr f).run s).units.qs = s.units.qs := rfl
@[simp] theorem modPwr_sm (f : Pwr → Pwr) (s : State) : ((modPwr f).run s).units.sm = s.units.sm := rfl
@[simp] theorem modPwr_res (f : Pwr → Pwr) (s : State) : ((modPwr f).run s).units.res = s.units.res := rfl
@[simp] theorem modPwr_img (f : Pwr → Pwr) (s : State) : ((modPwr f).run s).units.img = s.units.img := rfl
@[simp] theorem modPwr_wm (f : Pwr → Pwr) (s : State) : ((modPwr f).run s).units.wm = s.units.wm := rfl
@[simp] theorem modPwr_adc (f : Pwr → Pwr) (s : State) : ((modPwr f).run s).units.adc = s.units.adc := rfl
@[simp] theorem modPwr_rfx (f : Pwr → Pwr) (s : State) : ((modPwr f).run s).units.rfx = s.units.rfx := rfl
@[simp] theorem modPwr_pins (f : Pwr → Pwr) (s : State) : ((modPwr f).run s).units.pins = s.units.pins := rfl
@[simp] theorem modPwr_flt (f : Pwr → Pwr) (s : State) : ((modPwr f).run s).units.flt = s.units.flt := rfl
@[simp] theorem modPwr_trace (f : Pwr → Pwr) (s : State) : ((modPwr f).run s).units.trace = s.units.trace := rfl
@[simp] theorem modPwr_regs (f : Pwr → Pwr) (s : State) : ((modPwr f).run s).regs = s.regs := rfl
@[simp] theorem modPwr_mem (f : Pwr → Pwr) (s : State) : ((modPwr f).run s).mem = s.mem := rfl
@[simp] theorem modPwr_fuse (f : Pwr → Pwr) (s : State) : ((modPwr f).run s).fuse = s.fuse := rfl
@[simp] theorem modPwr_now (f : Pwr → Pwr) (s : State) : ((modPwr f).run s).now = s.now := rfl
@[simp] theorem modPwr_free (f : Pwr → Pwr) (s : State) : ((modPwr f).run s).free = s.free := rfl
@[simp] theorem modPwr_pending (f : Pwr → Pwr) (s : State) : ((modPwr f).run s).pending = s.pending := rfl
@[simp] theorem modPwr_cycle (f : Pwr → Pwr) (s : State) : ((modPwr f).run s).cycle = s.cycle := rfl
@[simp] theorem modPwr_stored (f : Pwr → Pwr) (s : State) (a : Nat) : ((modPwr f).run s).stored a = s.stored a := rfl
@[simp] theorem modPwr_rd8 (f : Pwr → Pwr) (s : State) (a : Nat) : ((modPwr f).run s).rd8 a = s.rd8 a := rfl

@[simp] theorem modTick_pwr (f : Tick → Tick) (s : State) : ((modTick f).run s).units.pwr = s.units.pwr := rfl
@[simp] theorem modTick_tick (f : Tick → Tick) (s : State) : ((modTick f).run s).units.tick = f s.units.tick := rfl
@[simp] theorem modTick_stg (f : Tick → Tick) (s : State) : ((modTick f).run s).units.stg = s.units.stg := rfl
@[simp] theorem modTick_hp (f : Tick → Tick) (s : State) : ((modTick f).run s).units.hp = s.units.hp := rfl
@[simp] theorem modTick_link (f : Tick → Tick) (s : State) : ((modTick f).run s).units.link = s.units.link := rfl
@[simp] theorem modTick_en (f : Tick → Tick) (s : State) : ((modTick f).run s).units.en = s.units.en := rfl
@[simp] theorem modTick_eng (f : Tick → Tick) (s : State) : ((modTick f).run s).units.eng = s.units.eng := rfl
@[simp] theorem modTick_dsp (f : Tick → Tick) (s : State) : ((modTick f).run s).units.dsp = s.units.dsp := rfl
@[simp] theorem modTick_xe (f : Tick → Tick) (s : State) : ((modTick f).run s).units.xe = s.units.xe := rfl
@[simp] theorem modTick_qs (f : Tick → Tick) (s : State) : ((modTick f).run s).units.qs = s.units.qs := rfl
@[simp] theorem modTick_sm (f : Tick → Tick) (s : State) : ((modTick f).run s).units.sm = s.units.sm := rfl
@[simp] theorem modTick_res (f : Tick → Tick) (s : State) : ((modTick f).run s).units.res = s.units.res := rfl
@[simp] theorem modTick_img (f : Tick → Tick) (s : State) : ((modTick f).run s).units.img = s.units.img := rfl
@[simp] theorem modTick_wm (f : Tick → Tick) (s : State) : ((modTick f).run s).units.wm = s.units.wm := rfl
@[simp] theorem modTick_adc (f : Tick → Tick) (s : State) : ((modTick f).run s).units.adc = s.units.adc := rfl
@[simp] theorem modTick_rfx (f : Tick → Tick) (s : State) : ((modTick f).run s).units.rfx = s.units.rfx := rfl
@[simp] theorem modTick_pins (f : Tick → Tick) (s : State) : ((modTick f).run s).units.pins = s.units.pins := rfl
@[simp] theorem modTick_flt (f : Tick → Tick) (s : State) : ((modTick f).run s).units.flt = s.units.flt := rfl
@[simp] theorem modTick_trace (f : Tick → Tick) (s : State) : ((modTick f).run s).units.trace = s.units.trace := rfl
@[simp] theorem modTick_regs (f : Tick → Tick) (s : State) : ((modTick f).run s).regs = s.regs := rfl
@[simp] theorem modTick_mem (f : Tick → Tick) (s : State) : ((modTick f).run s).mem = s.mem := rfl
@[simp] theorem modTick_fuse (f : Tick → Tick) (s : State) : ((modTick f).run s).fuse = s.fuse := rfl
@[simp] theorem modTick_now (f : Tick → Tick) (s : State) : ((modTick f).run s).now = s.now := rfl
@[simp] theorem modTick_free (f : Tick → Tick) (s : State) : ((modTick f).run s).free = s.free := rfl
@[simp] theorem modTick_pending (f : Tick → Tick) (s : State) : ((modTick f).run s).pending = s.pending := rfl
@[simp] theorem modTick_cycle (f : Tick → Tick) (s : State) : ((modTick f).run s).cycle = s.cycle := rfl
@[simp] theorem modTick_stored (f : Tick → Tick) (s : State) (a : Nat) : ((modTick f).run s).stored a = s.stored a := rfl
@[simp] theorem modTick_rd8 (f : Tick → Tick) (s : State) (a : Nat) : ((modTick f).run s).rd8 a = s.rd8 a := rfl

@[simp] theorem modStg_pwr (f : Stg → Stg) (s : State) : ((modStg f).run s).units.pwr = s.units.pwr := rfl
@[simp] theorem modStg_tick (f : Stg → Stg) (s : State) : ((modStg f).run s).units.tick = s.units.tick := rfl
@[simp] theorem modStg_stg (f : Stg → Stg) (s : State) : ((modStg f).run s).units.stg = f s.units.stg := rfl
@[simp] theorem modStg_hp (f : Stg → Stg) (s : State) : ((modStg f).run s).units.hp = s.units.hp := rfl
@[simp] theorem modStg_link (f : Stg → Stg) (s : State) : ((modStg f).run s).units.link = s.units.link := rfl
@[simp] theorem modStg_en (f : Stg → Stg) (s : State) : ((modStg f).run s).units.en = s.units.en := rfl
@[simp] theorem modStg_eng (f : Stg → Stg) (s : State) : ((modStg f).run s).units.eng = s.units.eng := rfl
@[simp] theorem modStg_dsp (f : Stg → Stg) (s : State) : ((modStg f).run s).units.dsp = s.units.dsp := rfl
@[simp] theorem modStg_xe (f : Stg → Stg) (s : State) : ((modStg f).run s).units.xe = s.units.xe := rfl
@[simp] theorem modStg_qs (f : Stg → Stg) (s : State) : ((modStg f).run s).units.qs = s.units.qs := rfl
@[simp] theorem modStg_sm (f : Stg → Stg) (s : State) : ((modStg f).run s).units.sm = s.units.sm := rfl
@[simp] theorem modStg_res (f : Stg → Stg) (s : State) : ((modStg f).run s).units.res = s.units.res := rfl
@[simp] theorem modStg_img (f : Stg → Stg) (s : State) : ((modStg f).run s).units.img = s.units.img := rfl
@[simp] theorem modStg_wm (f : Stg → Stg) (s : State) : ((modStg f).run s).units.wm = s.units.wm := rfl
@[simp] theorem modStg_adc (f : Stg → Stg) (s : State) : ((modStg f).run s).units.adc = s.units.adc := rfl
@[simp] theorem modStg_rfx (f : Stg → Stg) (s : State) : ((modStg f).run s).units.rfx = s.units.rfx := rfl
@[simp] theorem modStg_pins (f : Stg → Stg) (s : State) : ((modStg f).run s).units.pins = s.units.pins := rfl
@[simp] theorem modStg_flt (f : Stg → Stg) (s : State) : ((modStg f).run s).units.flt = s.units.flt := rfl
@[simp] theorem modStg_trace (f : Stg → Stg) (s : State) : ((modStg f).run s).units.trace = s.units.trace := rfl
@[simp] theorem modStg_regs (f : Stg → Stg) (s : State) : ((modStg f).run s).regs = s.regs := rfl
@[simp] theorem modStg_mem (f : Stg → Stg) (s : State) : ((modStg f).run s).mem = s.mem := rfl
@[simp] theorem modStg_fuse (f : Stg → Stg) (s : State) : ((modStg f).run s).fuse = s.fuse := rfl
@[simp] theorem modStg_now (f : Stg → Stg) (s : State) : ((modStg f).run s).now = s.now := rfl
@[simp] theorem modStg_free (f : Stg → Stg) (s : State) : ((modStg f).run s).free = s.free := rfl
@[simp] theorem modStg_pending (f : Stg → Stg) (s : State) : ((modStg f).run s).pending = s.pending := rfl
@[simp] theorem modStg_cycle (f : Stg → Stg) (s : State) : ((modStg f).run s).cycle = s.cycle := rfl
@[simp] theorem modStg_stored (f : Stg → Stg) (s : State) (a : Nat) : ((modStg f).run s).stored a = s.stored a := rfl
@[simp] theorem modStg_rd8 (f : Stg → Stg) (s : State) (a : Nat) : ((modStg f).run s).rd8 a = s.rd8 a := rfl

@[simp] theorem modHp_pwr (f : Hp → Hp) (s : State) : ((modHp f).run s).units.pwr = s.units.pwr := rfl
@[simp] theorem modHp_tick (f : Hp → Hp) (s : State) : ((modHp f).run s).units.tick = s.units.tick := rfl
@[simp] theorem modHp_stg (f : Hp → Hp) (s : State) : ((modHp f).run s).units.stg = s.units.stg := rfl
@[simp] theorem modHp_hp (f : Hp → Hp) (s : State) : ((modHp f).run s).units.hp = f s.units.hp := rfl
@[simp] theorem modHp_link (f : Hp → Hp) (s : State) : ((modHp f).run s).units.link = s.units.link := rfl
@[simp] theorem modHp_en (f : Hp → Hp) (s : State) : ((modHp f).run s).units.en = s.units.en := rfl
@[simp] theorem modHp_eng (f : Hp → Hp) (s : State) : ((modHp f).run s).units.eng = s.units.eng := rfl
@[simp] theorem modHp_dsp (f : Hp → Hp) (s : State) : ((modHp f).run s).units.dsp = s.units.dsp := rfl
@[simp] theorem modHp_xe (f : Hp → Hp) (s : State) : ((modHp f).run s).units.xe = s.units.xe := rfl
@[simp] theorem modHp_qs (f : Hp → Hp) (s : State) : ((modHp f).run s).units.qs = s.units.qs := rfl
@[simp] theorem modHp_sm (f : Hp → Hp) (s : State) : ((modHp f).run s).units.sm = s.units.sm := rfl
@[simp] theorem modHp_res (f : Hp → Hp) (s : State) : ((modHp f).run s).units.res = s.units.res := rfl
@[simp] theorem modHp_img (f : Hp → Hp) (s : State) : ((modHp f).run s).units.img = s.units.img := rfl
@[simp] theorem modHp_wm (f : Hp → Hp) (s : State) : ((modHp f).run s).units.wm = s.units.wm := rfl
@[simp] theorem modHp_adc (f : Hp → Hp) (s : State) : ((modHp f).run s).units.adc = s.units.adc := rfl
@[simp] theorem modHp_rfx (f : Hp → Hp) (s : State) : ((modHp f).run s).units.rfx = s.units.rfx := rfl
@[simp] theorem modHp_pins (f : Hp → Hp) (s : State) : ((modHp f).run s).units.pins = s.units.pins := rfl
@[simp] theorem modHp_flt (f : Hp → Hp) (s : State) : ((modHp f).run s).units.flt = s.units.flt := rfl
@[simp] theorem modHp_trace (f : Hp → Hp) (s : State) : ((modHp f).run s).units.trace = s.units.trace := rfl
@[simp] theorem modHp_regs (f : Hp → Hp) (s : State) : ((modHp f).run s).regs = s.regs := rfl
@[simp] theorem modHp_mem (f : Hp → Hp) (s : State) : ((modHp f).run s).mem = s.mem := rfl
@[simp] theorem modHp_fuse (f : Hp → Hp) (s : State) : ((modHp f).run s).fuse = s.fuse := rfl
@[simp] theorem modHp_now (f : Hp → Hp) (s : State) : ((modHp f).run s).now = s.now := rfl
@[simp] theorem modHp_free (f : Hp → Hp) (s : State) : ((modHp f).run s).free = s.free := rfl
@[simp] theorem modHp_pending (f : Hp → Hp) (s : State) : ((modHp f).run s).pending = s.pending := rfl
@[simp] theorem modHp_cycle (f : Hp → Hp) (s : State) : ((modHp f).run s).cycle = s.cycle := rfl
@[simp] theorem modHp_stored (f : Hp → Hp) (s : State) (a : Nat) : ((modHp f).run s).stored a = s.stored a := rfl
@[simp] theorem modHp_rd8 (f : Hp → Hp) (s : State) (a : Nat) : ((modHp f).run s).rd8 a = s.rd8 a := rfl

@[simp] theorem modLink_pwr (f : Link → Link) (s : State) : ((modLink f).run s).units.pwr = s.units.pwr := rfl
@[simp] theorem modLink_tick (f : Link → Link) (s : State) : ((modLink f).run s).units.tick = s.units.tick := rfl
@[simp] theorem modLink_stg (f : Link → Link) (s : State) : ((modLink f).run s).units.stg = s.units.stg := rfl
@[simp] theorem modLink_hp (f : Link → Link) (s : State) : ((modLink f).run s).units.hp = s.units.hp := rfl
@[simp] theorem modLink_link (f : Link → Link) (s : State) : ((modLink f).run s).units.link = f s.units.link := rfl
@[simp] theorem modLink_en (f : Link → Link) (s : State) : ((modLink f).run s).units.en = s.units.en := rfl
@[simp] theorem modLink_eng (f : Link → Link) (s : State) : ((modLink f).run s).units.eng = s.units.eng := rfl
@[simp] theorem modLink_dsp (f : Link → Link) (s : State) : ((modLink f).run s).units.dsp = s.units.dsp := rfl
@[simp] theorem modLink_xe (f : Link → Link) (s : State) : ((modLink f).run s).units.xe = s.units.xe := rfl
@[simp] theorem modLink_qs (f : Link → Link) (s : State) : ((modLink f).run s).units.qs = s.units.qs := rfl
@[simp] theorem modLink_sm (f : Link → Link) (s : State) : ((modLink f).run s).units.sm = s.units.sm := rfl
@[simp] theorem modLink_res (f : Link → Link) (s : State) : ((modLink f).run s).units.res = s.units.res := rfl
@[simp] theorem modLink_img (f : Link → Link) (s : State) : ((modLink f).run s).units.img = s.units.img := rfl
@[simp] theorem modLink_wm (f : Link → Link) (s : State) : ((modLink f).run s).units.wm = s.units.wm := rfl
@[simp] theorem modLink_adc (f : Link → Link) (s : State) : ((modLink f).run s).units.adc = s.units.adc := rfl
@[simp] theorem modLink_rfx (f : Link → Link) (s : State) : ((modLink f).run s).units.rfx = s.units.rfx := rfl
@[simp] theorem modLink_pins (f : Link → Link) (s : State) : ((modLink f).run s).units.pins = s.units.pins := rfl
@[simp] theorem modLink_flt (f : Link → Link) (s : State) : ((modLink f).run s).units.flt = s.units.flt := rfl
@[simp] theorem modLink_trace (f : Link → Link) (s : State) : ((modLink f).run s).units.trace = s.units.trace := rfl
@[simp] theorem modLink_regs (f : Link → Link) (s : State) : ((modLink f).run s).regs = s.regs := rfl
@[simp] theorem modLink_mem (f : Link → Link) (s : State) : ((modLink f).run s).mem = s.mem := rfl
@[simp] theorem modLink_fuse (f : Link → Link) (s : State) : ((modLink f).run s).fuse = s.fuse := rfl
@[simp] theorem modLink_now (f : Link → Link) (s : State) : ((modLink f).run s).now = s.now := rfl
@[simp] theorem modLink_free (f : Link → Link) (s : State) : ((modLink f).run s).free = s.free := rfl
@[simp] theorem modLink_pending (f : Link → Link) (s : State) : ((modLink f).run s).pending = s.pending := rfl
@[simp] theorem modLink_cycle (f : Link → Link) (s : State) : ((modLink f).run s).cycle = s.cycle := rfl
@[simp] theorem modLink_stored (f : Link → Link) (s : State) (a : Nat) : ((modLink f).run s).stored a = s.stored a := rfl
@[simp] theorem modLink_rd8 (f : Link → Link) (s : State) (a : Nat) : ((modLink f).run s).rd8 a = s.rd8 a := rfl

@[simp] theorem modEn_pwr (f : En → En) (s : State) : ((modEn f).run s).units.pwr = s.units.pwr := rfl
@[simp] theorem modEn_tick (f : En → En) (s : State) : ((modEn f).run s).units.tick = s.units.tick := rfl
@[simp] theorem modEn_stg (f : En → En) (s : State) : ((modEn f).run s).units.stg = s.units.stg := rfl
@[simp] theorem modEn_hp (f : En → En) (s : State) : ((modEn f).run s).units.hp = s.units.hp := rfl
@[simp] theorem modEn_link (f : En → En) (s : State) : ((modEn f).run s).units.link = s.units.link := rfl
@[simp] theorem modEn_en (f : En → En) (s : State) : ((modEn f).run s).units.en = f s.units.en := rfl
@[simp] theorem modEn_eng (f : En → En) (s : State) : ((modEn f).run s).units.eng = s.units.eng := rfl
@[simp] theorem modEn_dsp (f : En → En) (s : State) : ((modEn f).run s).units.dsp = s.units.dsp := rfl
@[simp] theorem modEn_xe (f : En → En) (s : State) : ((modEn f).run s).units.xe = s.units.xe := rfl
@[simp] theorem modEn_qs (f : En → En) (s : State) : ((modEn f).run s).units.qs = s.units.qs := rfl
@[simp] theorem modEn_sm (f : En → En) (s : State) : ((modEn f).run s).units.sm = s.units.sm := rfl
@[simp] theorem modEn_res (f : En → En) (s : State) : ((modEn f).run s).units.res = s.units.res := rfl
@[simp] theorem modEn_img (f : En → En) (s : State) : ((modEn f).run s).units.img = s.units.img := rfl
@[simp] theorem modEn_wm (f : En → En) (s : State) : ((modEn f).run s).units.wm = s.units.wm := rfl
@[simp] theorem modEn_adc (f : En → En) (s : State) : ((modEn f).run s).units.adc = s.units.adc := rfl
@[simp] theorem modEn_rfx (f : En → En) (s : State) : ((modEn f).run s).units.rfx = s.units.rfx := rfl
@[simp] theorem modEn_pins (f : En → En) (s : State) : ((modEn f).run s).units.pins = s.units.pins := rfl
@[simp] theorem modEn_flt (f : En → En) (s : State) : ((modEn f).run s).units.flt = s.units.flt := rfl
@[simp] theorem modEn_trace (f : En → En) (s : State) : ((modEn f).run s).units.trace = s.units.trace := rfl
@[simp] theorem modEn_regs (f : En → En) (s : State) : ((modEn f).run s).regs = s.regs := rfl
@[simp] theorem modEn_mem (f : En → En) (s : State) : ((modEn f).run s).mem = s.mem := rfl
@[simp] theorem modEn_fuse (f : En → En) (s : State) : ((modEn f).run s).fuse = s.fuse := rfl
@[simp] theorem modEn_now (f : En → En) (s : State) : ((modEn f).run s).now = s.now := rfl
@[simp] theorem modEn_free (f : En → En) (s : State) : ((modEn f).run s).free = s.free := rfl
@[simp] theorem modEn_pending (f : En → En) (s : State) : ((modEn f).run s).pending = s.pending := rfl
@[simp] theorem modEn_cycle (f : En → En) (s : State) : ((modEn f).run s).cycle = s.cycle := rfl
@[simp] theorem modEn_stored (f : En → En) (s : State) (a : Nat) : ((modEn f).run s).stored a = s.stored a := rfl
@[simp] theorem modEn_rd8 (f : En → En) (s : State) (a : Nat) : ((modEn f).run s).rd8 a = s.rd8 a := rfl

@[simp] theorem modEng_pwr (f : Eng → Eng) (s : State) : ((modEng f).run s).units.pwr = s.units.pwr := rfl
@[simp] theorem modEng_tick (f : Eng → Eng) (s : State) : ((modEng f).run s).units.tick = s.units.tick := rfl
@[simp] theorem modEng_stg (f : Eng → Eng) (s : State) : ((modEng f).run s).units.stg = s.units.stg := rfl
@[simp] theorem modEng_hp (f : Eng → Eng) (s : State) : ((modEng f).run s).units.hp = s.units.hp := rfl
@[simp] theorem modEng_link (f : Eng → Eng) (s : State) : ((modEng f).run s).units.link = s.units.link := rfl
@[simp] theorem modEng_en (f : Eng → Eng) (s : State) : ((modEng f).run s).units.en = s.units.en := rfl
@[simp] theorem modEng_eng (f : Eng → Eng) (s : State) : ((modEng f).run s).units.eng = f s.units.eng := rfl
@[simp] theorem modEng_dsp (f : Eng → Eng) (s : State) : ((modEng f).run s).units.dsp = s.units.dsp := rfl
@[simp] theorem modEng_xe (f : Eng → Eng) (s : State) : ((modEng f).run s).units.xe = s.units.xe := rfl
@[simp] theorem modEng_qs (f : Eng → Eng) (s : State) : ((modEng f).run s).units.qs = s.units.qs := rfl
@[simp] theorem modEng_sm (f : Eng → Eng) (s : State) : ((modEng f).run s).units.sm = s.units.sm := rfl
@[simp] theorem modEng_res (f : Eng → Eng) (s : State) : ((modEng f).run s).units.res = s.units.res := rfl
@[simp] theorem modEng_img (f : Eng → Eng) (s : State) : ((modEng f).run s).units.img = s.units.img := rfl
@[simp] theorem modEng_wm (f : Eng → Eng) (s : State) : ((modEng f).run s).units.wm = s.units.wm := rfl
@[simp] theorem modEng_adc (f : Eng → Eng) (s : State) : ((modEng f).run s).units.adc = s.units.adc := rfl
@[simp] theorem modEng_rfx (f : Eng → Eng) (s : State) : ((modEng f).run s).units.rfx = s.units.rfx := rfl
@[simp] theorem modEng_pins (f : Eng → Eng) (s : State) : ((modEng f).run s).units.pins = s.units.pins := rfl
@[simp] theorem modEng_flt (f : Eng → Eng) (s : State) : ((modEng f).run s).units.flt = s.units.flt := rfl
@[simp] theorem modEng_trace (f : Eng → Eng) (s : State) : ((modEng f).run s).units.trace = s.units.trace := rfl
@[simp] theorem modEng_regs (f : Eng → Eng) (s : State) : ((modEng f).run s).regs = s.regs := rfl
@[simp] theorem modEng_mem (f : Eng → Eng) (s : State) : ((modEng f).run s).mem = s.mem := rfl
@[simp] theorem modEng_fuse (f : Eng → Eng) (s : State) : ((modEng f).run s).fuse = s.fuse := rfl
@[simp] theorem modEng_now (f : Eng → Eng) (s : State) : ((modEng f).run s).now = s.now := rfl
@[simp] theorem modEng_free (f : Eng → Eng) (s : State) : ((modEng f).run s).free = s.free := rfl
@[simp] theorem modEng_pending (f : Eng → Eng) (s : State) : ((modEng f).run s).pending = s.pending := rfl
@[simp] theorem modEng_cycle (f : Eng → Eng) (s : State) : ((modEng f).run s).cycle = s.cycle := rfl
@[simp] theorem modEng_stored (f : Eng → Eng) (s : State) (a : Nat) : ((modEng f).run s).stored a = s.stored a := rfl
@[simp] theorem modEng_rd8 (f : Eng → Eng) (s : State) (a : Nat) : ((modEng f).run s).rd8 a = s.rd8 a := rfl

@[simp] theorem modDsp_pwr (f : Dsp → Dsp) (s : State) : ((modDsp f).run s).units.pwr = s.units.pwr := rfl
@[simp] theorem modDsp_tick (f : Dsp → Dsp) (s : State) : ((modDsp f).run s).units.tick = s.units.tick := rfl
@[simp] theorem modDsp_stg (f : Dsp → Dsp) (s : State) : ((modDsp f).run s).units.stg = s.units.stg := rfl
@[simp] theorem modDsp_hp (f : Dsp → Dsp) (s : State) : ((modDsp f).run s).units.hp = s.units.hp := rfl
@[simp] theorem modDsp_link (f : Dsp → Dsp) (s : State) : ((modDsp f).run s).units.link = s.units.link := rfl
@[simp] theorem modDsp_en (f : Dsp → Dsp) (s : State) : ((modDsp f).run s).units.en = s.units.en := rfl
@[simp] theorem modDsp_eng (f : Dsp → Dsp) (s : State) : ((modDsp f).run s).units.eng = s.units.eng := rfl
@[simp] theorem modDsp_dsp (f : Dsp → Dsp) (s : State) : ((modDsp f).run s).units.dsp = f s.units.dsp := rfl
@[simp] theorem modDsp_xe (f : Dsp → Dsp) (s : State) : ((modDsp f).run s).units.xe = s.units.xe := rfl
@[simp] theorem modDsp_qs (f : Dsp → Dsp) (s : State) : ((modDsp f).run s).units.qs = s.units.qs := rfl
@[simp] theorem modDsp_sm (f : Dsp → Dsp) (s : State) : ((modDsp f).run s).units.sm = s.units.sm := rfl
@[simp] theorem modDsp_res (f : Dsp → Dsp) (s : State) : ((modDsp f).run s).units.res = s.units.res := rfl
@[simp] theorem modDsp_img (f : Dsp → Dsp) (s : State) : ((modDsp f).run s).units.img = s.units.img := rfl
@[simp] theorem modDsp_wm (f : Dsp → Dsp) (s : State) : ((modDsp f).run s).units.wm = s.units.wm := rfl
@[simp] theorem modDsp_adc (f : Dsp → Dsp) (s : State) : ((modDsp f).run s).units.adc = s.units.adc := rfl
@[simp] theorem modDsp_rfx (f : Dsp → Dsp) (s : State) : ((modDsp f).run s).units.rfx = s.units.rfx := rfl
@[simp] theorem modDsp_pins (f : Dsp → Dsp) (s : State) : ((modDsp f).run s).units.pins = s.units.pins := rfl
@[simp] theorem modDsp_flt (f : Dsp → Dsp) (s : State) : ((modDsp f).run s).units.flt = s.units.flt := rfl
@[simp] theorem modDsp_trace (f : Dsp → Dsp) (s : State) : ((modDsp f).run s).units.trace = s.units.trace := rfl
@[simp] theorem modDsp_regs (f : Dsp → Dsp) (s : State) : ((modDsp f).run s).regs = s.regs := rfl
@[simp] theorem modDsp_mem (f : Dsp → Dsp) (s : State) : ((modDsp f).run s).mem = s.mem := rfl
@[simp] theorem modDsp_fuse (f : Dsp → Dsp) (s : State) : ((modDsp f).run s).fuse = s.fuse := rfl
@[simp] theorem modDsp_now (f : Dsp → Dsp) (s : State) : ((modDsp f).run s).now = s.now := rfl
@[simp] theorem modDsp_free (f : Dsp → Dsp) (s : State) : ((modDsp f).run s).free = s.free := rfl
@[simp] theorem modDsp_pending (f : Dsp → Dsp) (s : State) : ((modDsp f).run s).pending = s.pending := rfl
@[simp] theorem modDsp_cycle (f : Dsp → Dsp) (s : State) : ((modDsp f).run s).cycle = s.cycle := rfl
@[simp] theorem modDsp_stored (f : Dsp → Dsp) (s : State) (a : Nat) : ((modDsp f).run s).stored a = s.stored a := rfl
@[simp] theorem modDsp_rd8 (f : Dsp → Dsp) (s : State) (a : Nat) : ((modDsp f).run s).rd8 a = s.rd8 a := rfl

@[simp] theorem modXe_pwr (f : Xe → Xe) (s : State) : ((modXe f).run s).units.pwr = s.units.pwr := rfl
@[simp] theorem modXe_tick (f : Xe → Xe) (s : State) : ((modXe f).run s).units.tick = s.units.tick := rfl
@[simp] theorem modXe_stg (f : Xe → Xe) (s : State) : ((modXe f).run s).units.stg = s.units.stg := rfl
@[simp] theorem modXe_hp (f : Xe → Xe) (s : State) : ((modXe f).run s).units.hp = s.units.hp := rfl
@[simp] theorem modXe_link (f : Xe → Xe) (s : State) : ((modXe f).run s).units.link = s.units.link := rfl
@[simp] theorem modXe_en (f : Xe → Xe) (s : State) : ((modXe f).run s).units.en = s.units.en := rfl
@[simp] theorem modXe_eng (f : Xe → Xe) (s : State) : ((modXe f).run s).units.eng = s.units.eng := rfl
@[simp] theorem modXe_dsp (f : Xe → Xe) (s : State) : ((modXe f).run s).units.dsp = s.units.dsp := rfl
@[simp] theorem modXe_xe (f : Xe → Xe) (s : State) : ((modXe f).run s).units.xe = f s.units.xe := rfl
@[simp] theorem modXe_qs (f : Xe → Xe) (s : State) : ((modXe f).run s).units.qs = s.units.qs := rfl
@[simp] theorem modXe_sm (f : Xe → Xe) (s : State) : ((modXe f).run s).units.sm = s.units.sm := rfl
@[simp] theorem modXe_res (f : Xe → Xe) (s : State) : ((modXe f).run s).units.res = s.units.res := rfl
@[simp] theorem modXe_img (f : Xe → Xe) (s : State) : ((modXe f).run s).units.img = s.units.img := rfl
@[simp] theorem modXe_wm (f : Xe → Xe) (s : State) : ((modXe f).run s).units.wm = s.units.wm := rfl
@[simp] theorem modXe_adc (f : Xe → Xe) (s : State) : ((modXe f).run s).units.adc = s.units.adc := rfl
@[simp] theorem modXe_rfx (f : Xe → Xe) (s : State) : ((modXe f).run s).units.rfx = s.units.rfx := rfl
@[simp] theorem modXe_pins (f : Xe → Xe) (s : State) : ((modXe f).run s).units.pins = s.units.pins := rfl
@[simp] theorem modXe_flt (f : Xe → Xe) (s : State) : ((modXe f).run s).units.flt = s.units.flt := rfl
@[simp] theorem modXe_trace (f : Xe → Xe) (s : State) : ((modXe f).run s).units.trace = s.units.trace := rfl
@[simp] theorem modXe_regs (f : Xe → Xe) (s : State) : ((modXe f).run s).regs = s.regs := rfl
@[simp] theorem modXe_mem (f : Xe → Xe) (s : State) : ((modXe f).run s).mem = s.mem := rfl
@[simp] theorem modXe_fuse (f : Xe → Xe) (s : State) : ((modXe f).run s).fuse = s.fuse := rfl
@[simp] theorem modXe_now (f : Xe → Xe) (s : State) : ((modXe f).run s).now = s.now := rfl
@[simp] theorem modXe_free (f : Xe → Xe) (s : State) : ((modXe f).run s).free = s.free := rfl
@[simp] theorem modXe_pending (f : Xe → Xe) (s : State) : ((modXe f).run s).pending = s.pending := rfl
@[simp] theorem modXe_cycle (f : Xe → Xe) (s : State) : ((modXe f).run s).cycle = s.cycle := rfl
@[simp] theorem modXe_stored (f : Xe → Xe) (s : State) (a : Nat) : ((modXe f).run s).stored a = s.stored a := rfl
@[simp] theorem modXe_rd8 (f : Xe → Xe) (s : State) (a : Nat) : ((modXe f).run s).rd8 a = s.rd8 a := rfl

@[simp] theorem modQs_pwr (f : Qs → Qs) (s : State) : ((modQs f).run s).units.pwr = s.units.pwr := rfl
@[simp] theorem modQs_tick (f : Qs → Qs) (s : State) : ((modQs f).run s).units.tick = s.units.tick := rfl
@[simp] theorem modQs_stg (f : Qs → Qs) (s : State) : ((modQs f).run s).units.stg = s.units.stg := rfl
@[simp] theorem modQs_hp (f : Qs → Qs) (s : State) : ((modQs f).run s).units.hp = s.units.hp := rfl
@[simp] theorem modQs_link (f : Qs → Qs) (s : State) : ((modQs f).run s).units.link = s.units.link := rfl
@[simp] theorem modQs_en (f : Qs → Qs) (s : State) : ((modQs f).run s).units.en = s.units.en := rfl
@[simp] theorem modQs_eng (f : Qs → Qs) (s : State) : ((modQs f).run s).units.eng = s.units.eng := rfl
@[simp] theorem modQs_dsp (f : Qs → Qs) (s : State) : ((modQs f).run s).units.dsp = s.units.dsp := rfl
@[simp] theorem modQs_xe (f : Qs → Qs) (s : State) : ((modQs f).run s).units.xe = s.units.xe := rfl
@[simp] theorem modQs_qs (f : Qs → Qs) (s : State) : ((modQs f).run s).units.qs = f s.units.qs := rfl
@[simp] theorem modQs_sm (f : Qs → Qs) (s : State) : ((modQs f).run s).units.sm = s.units.sm := rfl
@[simp] theorem modQs_res (f : Qs → Qs) (s : State) : ((modQs f).run s).units.res = s.units.res := rfl
@[simp] theorem modQs_img (f : Qs → Qs) (s : State) : ((modQs f).run s).units.img = s.units.img := rfl
@[simp] theorem modQs_wm (f : Qs → Qs) (s : State) : ((modQs f).run s).units.wm = s.units.wm := rfl
@[simp] theorem modQs_adc (f : Qs → Qs) (s : State) : ((modQs f).run s).units.adc = s.units.adc := rfl
@[simp] theorem modQs_rfx (f : Qs → Qs) (s : State) : ((modQs f).run s).units.rfx = s.units.rfx := rfl
@[simp] theorem modQs_pins (f : Qs → Qs) (s : State) : ((modQs f).run s).units.pins = s.units.pins := rfl
@[simp] theorem modQs_flt (f : Qs → Qs) (s : State) : ((modQs f).run s).units.flt = s.units.flt := rfl
@[simp] theorem modQs_trace (f : Qs → Qs) (s : State) : ((modQs f).run s).units.trace = s.units.trace := rfl
@[simp] theorem modQs_regs (f : Qs → Qs) (s : State) : ((modQs f).run s).regs = s.regs := rfl
@[simp] theorem modQs_mem (f : Qs → Qs) (s : State) : ((modQs f).run s).mem = s.mem := rfl
@[simp] theorem modQs_fuse (f : Qs → Qs) (s : State) : ((modQs f).run s).fuse = s.fuse := rfl
@[simp] theorem modQs_now (f : Qs → Qs) (s : State) : ((modQs f).run s).now = s.now := rfl
@[simp] theorem modQs_free (f : Qs → Qs) (s : State) : ((modQs f).run s).free = s.free := rfl
@[simp] theorem modQs_pending (f : Qs → Qs) (s : State) : ((modQs f).run s).pending = s.pending := rfl
@[simp] theorem modQs_cycle (f : Qs → Qs) (s : State) : ((modQs f).run s).cycle = s.cycle := rfl
@[simp] theorem modQs_stored (f : Qs → Qs) (s : State) (a : Nat) : ((modQs f).run s).stored a = s.stored a := rfl
@[simp] theorem modQs_rd8 (f : Qs → Qs) (s : State) (a : Nat) : ((modQs f).run s).rd8 a = s.rd8 a := rfl

@[simp] theorem modSm_pwr (f : Sm → Sm) (s : State) : ((modSm f).run s).units.pwr = s.units.pwr := rfl
@[simp] theorem modSm_tick (f : Sm → Sm) (s : State) : ((modSm f).run s).units.tick = s.units.tick := rfl
@[simp] theorem modSm_stg (f : Sm → Sm) (s : State) : ((modSm f).run s).units.stg = s.units.stg := rfl
@[simp] theorem modSm_hp (f : Sm → Sm) (s : State) : ((modSm f).run s).units.hp = s.units.hp := rfl
@[simp] theorem modSm_link (f : Sm → Sm) (s : State) : ((modSm f).run s).units.link = s.units.link := rfl
@[simp] theorem modSm_en (f : Sm → Sm) (s : State) : ((modSm f).run s).units.en = s.units.en := rfl
@[simp] theorem modSm_eng (f : Sm → Sm) (s : State) : ((modSm f).run s).units.eng = s.units.eng := rfl
@[simp] theorem modSm_dsp (f : Sm → Sm) (s : State) : ((modSm f).run s).units.dsp = s.units.dsp := rfl
@[simp] theorem modSm_xe (f : Sm → Sm) (s : State) : ((modSm f).run s).units.xe = s.units.xe := rfl
@[simp] theorem modSm_qs (f : Sm → Sm) (s : State) : ((modSm f).run s).units.qs = s.units.qs := rfl
@[simp] theorem modSm_sm (f : Sm → Sm) (s : State) : ((modSm f).run s).units.sm = f s.units.sm := rfl
@[simp] theorem modSm_res (f : Sm → Sm) (s : State) : ((modSm f).run s).units.res = s.units.res := rfl
@[simp] theorem modSm_img (f : Sm → Sm) (s : State) : ((modSm f).run s).units.img = s.units.img := rfl
@[simp] theorem modSm_wm (f : Sm → Sm) (s : State) : ((modSm f).run s).units.wm = s.units.wm := rfl
@[simp] theorem modSm_adc (f : Sm → Sm) (s : State) : ((modSm f).run s).units.adc = s.units.adc := rfl
@[simp] theorem modSm_rfx (f : Sm → Sm) (s : State) : ((modSm f).run s).units.rfx = s.units.rfx := rfl
@[simp] theorem modSm_pins (f : Sm → Sm) (s : State) : ((modSm f).run s).units.pins = s.units.pins := rfl
@[simp] theorem modSm_flt (f : Sm → Sm) (s : State) : ((modSm f).run s).units.flt = s.units.flt := rfl
@[simp] theorem modSm_trace (f : Sm → Sm) (s : State) : ((modSm f).run s).units.trace = s.units.trace := rfl
@[simp] theorem modSm_regs (f : Sm → Sm) (s : State) : ((modSm f).run s).regs = s.regs := rfl
@[simp] theorem modSm_mem (f : Sm → Sm) (s : State) : ((modSm f).run s).mem = s.mem := rfl
@[simp] theorem modSm_fuse (f : Sm → Sm) (s : State) : ((modSm f).run s).fuse = s.fuse := rfl
@[simp] theorem modSm_now (f : Sm → Sm) (s : State) : ((modSm f).run s).now = s.now := rfl
@[simp] theorem modSm_free (f : Sm → Sm) (s : State) : ((modSm f).run s).free = s.free := rfl
@[simp] theorem modSm_pending (f : Sm → Sm) (s : State) : ((modSm f).run s).pending = s.pending := rfl
@[simp] theorem modSm_cycle (f : Sm → Sm) (s : State) : ((modSm f).run s).cycle = s.cycle := rfl
@[simp] theorem modSm_stored (f : Sm → Sm) (s : State) (a : Nat) : ((modSm f).run s).stored a = s.stored a := rfl
@[simp] theorem modSm_rd8 (f : Sm → Sm) (s : State) (a : Nat) : ((modSm f).run s).rd8 a = s.rd8 a := rfl

@[simp] theorem modRes_pwr (f : Res → Res) (s : State) : ((modRes f).run s).units.pwr = s.units.pwr := rfl
@[simp] theorem modRes_tick (f : Res → Res) (s : State) : ((modRes f).run s).units.tick = s.units.tick := rfl
@[simp] theorem modRes_stg (f : Res → Res) (s : State) : ((modRes f).run s).units.stg = s.units.stg := rfl
@[simp] theorem modRes_hp (f : Res → Res) (s : State) : ((modRes f).run s).units.hp = s.units.hp := rfl
@[simp] theorem modRes_link (f : Res → Res) (s : State) : ((modRes f).run s).units.link = s.units.link := rfl
@[simp] theorem modRes_en (f : Res → Res) (s : State) : ((modRes f).run s).units.en = s.units.en := rfl
@[simp] theorem modRes_eng (f : Res → Res) (s : State) : ((modRes f).run s).units.eng = s.units.eng := rfl
@[simp] theorem modRes_dsp (f : Res → Res) (s : State) : ((modRes f).run s).units.dsp = s.units.dsp := rfl
@[simp] theorem modRes_xe (f : Res → Res) (s : State) : ((modRes f).run s).units.xe = s.units.xe := rfl
@[simp] theorem modRes_qs (f : Res → Res) (s : State) : ((modRes f).run s).units.qs = s.units.qs := rfl
@[simp] theorem modRes_sm (f : Res → Res) (s : State) : ((modRes f).run s).units.sm = s.units.sm := rfl
@[simp] theorem modRes_res (f : Res → Res) (s : State) : ((modRes f).run s).units.res = f s.units.res := rfl
@[simp] theorem modRes_img (f : Res → Res) (s : State) : ((modRes f).run s).units.img = s.units.img := rfl
@[simp] theorem modRes_wm (f : Res → Res) (s : State) : ((modRes f).run s).units.wm = s.units.wm := rfl
@[simp] theorem modRes_adc (f : Res → Res) (s : State) : ((modRes f).run s).units.adc = s.units.adc := rfl
@[simp] theorem modRes_rfx (f : Res → Res) (s : State) : ((modRes f).run s).units.rfx = s.units.rfx := rfl
@[simp] theorem modRes_pins (f : Res → Res) (s : State) : ((modRes f).run s).units.pins = s.units.pins := rfl
@[simp] theorem modRes_flt (f : Res → Res) (s : State) : ((modRes f).run s).units.flt = s.units.flt := rfl
@[simp] theorem modRes_trace (f : Res → Res) (s : State) : ((modRes f).run s).units.trace = s.units.trace := rfl
@[simp] theorem modRes_regs (f : Res → Res) (s : State) : ((modRes f).run s).regs = s.regs := rfl
@[simp] theorem modRes_mem (f : Res → Res) (s : State) : ((modRes f).run s).mem = s.mem := rfl
@[simp] theorem modRes_fuse (f : Res → Res) (s : State) : ((modRes f).run s).fuse = s.fuse := rfl
@[simp] theorem modRes_now (f : Res → Res) (s : State) : ((modRes f).run s).now = s.now := rfl
@[simp] theorem modRes_free (f : Res → Res) (s : State) : ((modRes f).run s).free = s.free := rfl
@[simp] theorem modRes_pending (f : Res → Res) (s : State) : ((modRes f).run s).pending = s.pending := rfl
@[simp] theorem modRes_cycle (f : Res → Res) (s : State) : ((modRes f).run s).cycle = s.cycle := rfl
@[simp] theorem modRes_stored (f : Res → Res) (s : State) (a : Nat) : ((modRes f).run s).stored a = s.stored a := rfl
@[simp] theorem modRes_rd8 (f : Res → Res) (s : State) (a : Nat) : ((modRes f).run s).rd8 a = s.rd8 a := rfl

@[simp] theorem modImg_pwr (f : Img → Img) (s : State) : ((modImg f).run s).units.pwr = s.units.pwr := rfl
@[simp] theorem modImg_tick (f : Img → Img) (s : State) : ((modImg f).run s).units.tick = s.units.tick := rfl
@[simp] theorem modImg_stg (f : Img → Img) (s : State) : ((modImg f).run s).units.stg = s.units.stg := rfl
@[simp] theorem modImg_hp (f : Img → Img) (s : State) : ((modImg f).run s).units.hp = s.units.hp := rfl
@[simp] theorem modImg_link (f : Img → Img) (s : State) : ((modImg f).run s).units.link = s.units.link := rfl
@[simp] theorem modImg_en (f : Img → Img) (s : State) : ((modImg f).run s).units.en = s.units.en := rfl
@[simp] theorem modImg_eng (f : Img → Img) (s : State) : ((modImg f).run s).units.eng = s.units.eng := rfl
@[simp] theorem modImg_dsp (f : Img → Img) (s : State) : ((modImg f).run s).units.dsp = s.units.dsp := rfl
@[simp] theorem modImg_xe (f : Img → Img) (s : State) : ((modImg f).run s).units.xe = s.units.xe := rfl
@[simp] theorem modImg_qs (f : Img → Img) (s : State) : ((modImg f).run s).units.qs = s.units.qs := rfl
@[simp] theorem modImg_sm (f : Img → Img) (s : State) : ((modImg f).run s).units.sm = s.units.sm := rfl
@[simp] theorem modImg_res (f : Img → Img) (s : State) : ((modImg f).run s).units.res = s.units.res := rfl
@[simp] theorem modImg_img (f : Img → Img) (s : State) : ((modImg f).run s).units.img = f s.units.img := rfl
@[simp] theorem modImg_wm (f : Img → Img) (s : State) : ((modImg f).run s).units.wm = s.units.wm := rfl
@[simp] theorem modImg_adc (f : Img → Img) (s : State) : ((modImg f).run s).units.adc = s.units.adc := rfl
@[simp] theorem modImg_rfx (f : Img → Img) (s : State) : ((modImg f).run s).units.rfx = s.units.rfx := rfl
@[simp] theorem modImg_pins (f : Img → Img) (s : State) : ((modImg f).run s).units.pins = s.units.pins := rfl
@[simp] theorem modImg_flt (f : Img → Img) (s : State) : ((modImg f).run s).units.flt = s.units.flt := rfl
@[simp] theorem modImg_trace (f : Img → Img) (s : State) : ((modImg f).run s).units.trace = s.units.trace := rfl
@[simp] theorem modImg_regs (f : Img → Img) (s : State) : ((modImg f).run s).regs = s.regs := rfl
@[simp] theorem modImg_mem (f : Img → Img) (s : State) : ((modImg f).run s).mem = s.mem := rfl
@[simp] theorem modImg_fuse (f : Img → Img) (s : State) : ((modImg f).run s).fuse = s.fuse := rfl
@[simp] theorem modImg_now (f : Img → Img) (s : State) : ((modImg f).run s).now = s.now := rfl
@[simp] theorem modImg_free (f : Img → Img) (s : State) : ((modImg f).run s).free = s.free := rfl
@[simp] theorem modImg_pending (f : Img → Img) (s : State) : ((modImg f).run s).pending = s.pending := rfl
@[simp] theorem modImg_cycle (f : Img → Img) (s : State) : ((modImg f).run s).cycle = s.cycle := rfl
@[simp] theorem modImg_stored (f : Img → Img) (s : State) (a : Nat) : ((modImg f).run s).stored a = s.stored a := rfl
@[simp] theorem modImg_rd8 (f : Img → Img) (s : State) (a : Nat) : ((modImg f).run s).rd8 a = s.rd8 a := rfl

@[simp] theorem modWm_pwr (f : Wm → Wm) (s : State) : ((modWm f).run s).units.pwr = s.units.pwr := rfl
@[simp] theorem modWm_tick (f : Wm → Wm) (s : State) : ((modWm f).run s).units.tick = s.units.tick := rfl
@[simp] theorem modWm_stg (f : Wm → Wm) (s : State) : ((modWm f).run s).units.stg = s.units.stg := rfl
@[simp] theorem modWm_hp (f : Wm → Wm) (s : State) : ((modWm f).run s).units.hp = s.units.hp := rfl
@[simp] theorem modWm_link (f : Wm → Wm) (s : State) : ((modWm f).run s).units.link = s.units.link := rfl
@[simp] theorem modWm_en (f : Wm → Wm) (s : State) : ((modWm f).run s).units.en = s.units.en := rfl
@[simp] theorem modWm_eng (f : Wm → Wm) (s : State) : ((modWm f).run s).units.eng = s.units.eng := rfl
@[simp] theorem modWm_dsp (f : Wm → Wm) (s : State) : ((modWm f).run s).units.dsp = s.units.dsp := rfl
@[simp] theorem modWm_xe (f : Wm → Wm) (s : State) : ((modWm f).run s).units.xe = s.units.xe := rfl
@[simp] theorem modWm_qs (f : Wm → Wm) (s : State) : ((modWm f).run s).units.qs = s.units.qs := rfl
@[simp] theorem modWm_sm (f : Wm → Wm) (s : State) : ((modWm f).run s).units.sm = s.units.sm := rfl
@[simp] theorem modWm_res (f : Wm → Wm) (s : State) : ((modWm f).run s).units.res = s.units.res := rfl
@[simp] theorem modWm_img (f : Wm → Wm) (s : State) : ((modWm f).run s).units.img = s.units.img := rfl
@[simp] theorem modWm_wm (f : Wm → Wm) (s : State) : ((modWm f).run s).units.wm = f s.units.wm := rfl
@[simp] theorem modWm_adc (f : Wm → Wm) (s : State) : ((modWm f).run s).units.adc = s.units.adc := rfl
@[simp] theorem modWm_rfx (f : Wm → Wm) (s : State) : ((modWm f).run s).units.rfx = s.units.rfx := rfl
@[simp] theorem modWm_pins (f : Wm → Wm) (s : State) : ((modWm f).run s).units.pins = s.units.pins := rfl
@[simp] theorem modWm_flt (f : Wm → Wm) (s : State) : ((modWm f).run s).units.flt = s.units.flt := rfl
@[simp] theorem modWm_trace (f : Wm → Wm) (s : State) : ((modWm f).run s).units.trace = s.units.trace := rfl
@[simp] theorem modWm_regs (f : Wm → Wm) (s : State) : ((modWm f).run s).regs = s.regs := rfl
@[simp] theorem modWm_mem (f : Wm → Wm) (s : State) : ((modWm f).run s).mem = s.mem := rfl
@[simp] theorem modWm_fuse (f : Wm → Wm) (s : State) : ((modWm f).run s).fuse = s.fuse := rfl
@[simp] theorem modWm_now (f : Wm → Wm) (s : State) : ((modWm f).run s).now = s.now := rfl
@[simp] theorem modWm_free (f : Wm → Wm) (s : State) : ((modWm f).run s).free = s.free := rfl
@[simp] theorem modWm_pending (f : Wm → Wm) (s : State) : ((modWm f).run s).pending = s.pending := rfl
@[simp] theorem modWm_cycle (f : Wm → Wm) (s : State) : ((modWm f).run s).cycle = s.cycle := rfl
@[simp] theorem modWm_stored (f : Wm → Wm) (s : State) (a : Nat) : ((modWm f).run s).stored a = s.stored a := rfl
@[simp] theorem modWm_rd8 (f : Wm → Wm) (s : State) (a : Nat) : ((modWm f).run s).rd8 a = s.rd8 a := rfl

@[simp] theorem modAdc_pwr (f : Adc → Adc) (s : State) : ((modAdc f).run s).units.pwr = s.units.pwr := rfl
@[simp] theorem modAdc_tick (f : Adc → Adc) (s : State) : ((modAdc f).run s).units.tick = s.units.tick := rfl
@[simp] theorem modAdc_stg (f : Adc → Adc) (s : State) : ((modAdc f).run s).units.stg = s.units.stg := rfl
@[simp] theorem modAdc_hp (f : Adc → Adc) (s : State) : ((modAdc f).run s).units.hp = s.units.hp := rfl
@[simp] theorem modAdc_link (f : Adc → Adc) (s : State) : ((modAdc f).run s).units.link = s.units.link := rfl
@[simp] theorem modAdc_en (f : Adc → Adc) (s : State) : ((modAdc f).run s).units.en = s.units.en := rfl
@[simp] theorem modAdc_eng (f : Adc → Adc) (s : State) : ((modAdc f).run s).units.eng = s.units.eng := rfl
@[simp] theorem modAdc_dsp (f : Adc → Adc) (s : State) : ((modAdc f).run s).units.dsp = s.units.dsp := rfl
@[simp] theorem modAdc_xe (f : Adc → Adc) (s : State) : ((modAdc f).run s).units.xe = s.units.xe := rfl
@[simp] theorem modAdc_qs (f : Adc → Adc) (s : State) : ((modAdc f).run s).units.qs = s.units.qs := rfl
@[simp] theorem modAdc_sm (f : Adc → Adc) (s : State) : ((modAdc f).run s).units.sm = s.units.sm := rfl
@[simp] theorem modAdc_res (f : Adc → Adc) (s : State) : ((modAdc f).run s).units.res = s.units.res := rfl
@[simp] theorem modAdc_img (f : Adc → Adc) (s : State) : ((modAdc f).run s).units.img = s.units.img := rfl
@[simp] theorem modAdc_wm (f : Adc → Adc) (s : State) : ((modAdc f).run s).units.wm = s.units.wm := rfl
@[simp] theorem modAdc_adc (f : Adc → Adc) (s : State) : ((modAdc f).run s).units.adc = f s.units.adc := rfl
@[simp] theorem modAdc_rfx (f : Adc → Adc) (s : State) : ((modAdc f).run s).units.rfx = s.units.rfx := rfl
@[simp] theorem modAdc_pins (f : Adc → Adc) (s : State) : ((modAdc f).run s).units.pins = s.units.pins := rfl
@[simp] theorem modAdc_flt (f : Adc → Adc) (s : State) : ((modAdc f).run s).units.flt = s.units.flt := rfl
@[simp] theorem modAdc_trace (f : Adc → Adc) (s : State) : ((modAdc f).run s).units.trace = s.units.trace := rfl
@[simp] theorem modAdc_regs (f : Adc → Adc) (s : State) : ((modAdc f).run s).regs = s.regs := rfl
@[simp] theorem modAdc_mem (f : Adc → Adc) (s : State) : ((modAdc f).run s).mem = s.mem := rfl
@[simp] theorem modAdc_fuse (f : Adc → Adc) (s : State) : ((modAdc f).run s).fuse = s.fuse := rfl
@[simp] theorem modAdc_now (f : Adc → Adc) (s : State) : ((modAdc f).run s).now = s.now := rfl
@[simp] theorem modAdc_free (f : Adc → Adc) (s : State) : ((modAdc f).run s).free = s.free := rfl
@[simp] theorem modAdc_pending (f : Adc → Adc) (s : State) : ((modAdc f).run s).pending = s.pending := rfl
@[simp] theorem modAdc_cycle (f : Adc → Adc) (s : State) : ((modAdc f).run s).cycle = s.cycle := rfl
@[simp] theorem modAdc_stored (f : Adc → Adc) (s : State) (a : Nat) : ((modAdc f).run s).stored a = s.stored a := rfl
@[simp] theorem modAdc_rd8 (f : Adc → Adc) (s : State) (a : Nat) : ((modAdc f).run s).rd8 a = s.rd8 a := rfl

@[simp] theorem modRfx_pwr (f : Rfx → Rfx) (s : State) : ((modRfx f).run s).units.pwr = s.units.pwr := rfl
@[simp] theorem modRfx_tick (f : Rfx → Rfx) (s : State) : ((modRfx f).run s).units.tick = s.units.tick := rfl
@[simp] theorem modRfx_stg (f : Rfx → Rfx) (s : State) : ((modRfx f).run s).units.stg = s.units.stg := rfl
@[simp] theorem modRfx_hp (f : Rfx → Rfx) (s : State) : ((modRfx f).run s).units.hp = s.units.hp := rfl
@[simp] theorem modRfx_link (f : Rfx → Rfx) (s : State) : ((modRfx f).run s).units.link = s.units.link := rfl
@[simp] theorem modRfx_en (f : Rfx → Rfx) (s : State) : ((modRfx f).run s).units.en = s.units.en := rfl
@[simp] theorem modRfx_eng (f : Rfx → Rfx) (s : State) : ((modRfx f).run s).units.eng = s.units.eng := rfl
@[simp] theorem modRfx_dsp (f : Rfx → Rfx) (s : State) : ((modRfx f).run s).units.dsp = s.units.dsp := rfl
@[simp] theorem modRfx_xe (f : Rfx → Rfx) (s : State) : ((modRfx f).run s).units.xe = s.units.xe := rfl
@[simp] theorem modRfx_qs (f : Rfx → Rfx) (s : State) : ((modRfx f).run s).units.qs = s.units.qs := rfl
@[simp] theorem modRfx_sm (f : Rfx → Rfx) (s : State) : ((modRfx f).run s).units.sm = s.units.sm := rfl
@[simp] theorem modRfx_res (f : Rfx → Rfx) (s : State) : ((modRfx f).run s).units.res = s.units.res := rfl
@[simp] theorem modRfx_img (f : Rfx → Rfx) (s : State) : ((modRfx f).run s).units.img = s.units.img := rfl
@[simp] theorem modRfx_wm (f : Rfx → Rfx) (s : State) : ((modRfx f).run s).units.wm = s.units.wm := rfl
@[simp] theorem modRfx_adc (f : Rfx → Rfx) (s : State) : ((modRfx f).run s).units.adc = s.units.adc := rfl
@[simp] theorem modRfx_rfx (f : Rfx → Rfx) (s : State) : ((modRfx f).run s).units.rfx = f s.units.rfx := rfl
@[simp] theorem modRfx_pins (f : Rfx → Rfx) (s : State) : ((modRfx f).run s).units.pins = s.units.pins := rfl
@[simp] theorem modRfx_flt (f : Rfx → Rfx) (s : State) : ((modRfx f).run s).units.flt = s.units.flt := rfl
@[simp] theorem modRfx_trace (f : Rfx → Rfx) (s : State) : ((modRfx f).run s).units.trace = s.units.trace := rfl
@[simp] theorem modRfx_regs (f : Rfx → Rfx) (s : State) : ((modRfx f).run s).regs = s.regs := rfl
@[simp] theorem modRfx_mem (f : Rfx → Rfx) (s : State) : ((modRfx f).run s).mem = s.mem := rfl
@[simp] theorem modRfx_fuse (f : Rfx → Rfx) (s : State) : ((modRfx f).run s).fuse = s.fuse := rfl
@[simp] theorem modRfx_now (f : Rfx → Rfx) (s : State) : ((modRfx f).run s).now = s.now := rfl
@[simp] theorem modRfx_free (f : Rfx → Rfx) (s : State) : ((modRfx f).run s).free = s.free := rfl
@[simp] theorem modRfx_pending (f : Rfx → Rfx) (s : State) : ((modRfx f).run s).pending = s.pending := rfl
@[simp] theorem modRfx_cycle (f : Rfx → Rfx) (s : State) : ((modRfx f).run s).cycle = s.cycle := rfl
@[simp] theorem modRfx_stored (f : Rfx → Rfx) (s : State) (a : Nat) : ((modRfx f).run s).stored a = s.stored a := rfl
@[simp] theorem modRfx_rd8 (f : Rfx → Rfx) (s : State) (a : Nat) : ((modRfx f).run s).rd8 a = s.rd8 a := rfl

@[simp] theorem modPins_pwr (f : Pins → Pins) (s : State) : ((modPins f).run s).units.pwr = s.units.pwr := rfl
@[simp] theorem modPins_tick (f : Pins → Pins) (s : State) : ((modPins f).run s).units.tick = s.units.tick := rfl
@[simp] theorem modPins_stg (f : Pins → Pins) (s : State) : ((modPins f).run s).units.stg = s.units.stg := rfl
@[simp] theorem modPins_hp (f : Pins → Pins) (s : State) : ((modPins f).run s).units.hp = s.units.hp := rfl
@[simp] theorem modPins_link (f : Pins → Pins) (s : State) : ((modPins f).run s).units.link = s.units.link := rfl
@[simp] theorem modPins_en (f : Pins → Pins) (s : State) : ((modPins f).run s).units.en = s.units.en := rfl
@[simp] theorem modPins_eng (f : Pins → Pins) (s : State) : ((modPins f).run s).units.eng = s.units.eng := rfl
@[simp] theorem modPins_dsp (f : Pins → Pins) (s : State) : ((modPins f).run s).units.dsp = s.units.dsp := rfl
@[simp] theorem modPins_xe (f : Pins → Pins) (s : State) : ((modPins f).run s).units.xe = s.units.xe := rfl
@[simp] theorem modPins_qs (f : Pins → Pins) (s : State) : ((modPins f).run s).units.qs = s.units.qs := rfl
@[simp] theorem modPins_sm (f : Pins → Pins) (s : State) : ((modPins f).run s).units.sm = s.units.sm := rfl
@[simp] theorem modPins_res (f : Pins → Pins) (s : State) : ((modPins f).run s).units.res = s.units.res := rfl
@[simp] theorem modPins_img (f : Pins → Pins) (s : State) : ((modPins f).run s).units.img = s.units.img := rfl
@[simp] theorem modPins_wm (f : Pins → Pins) (s : State) : ((modPins f).run s).units.wm = s.units.wm := rfl
@[simp] theorem modPins_adc (f : Pins → Pins) (s : State) : ((modPins f).run s).units.adc = s.units.adc := rfl
@[simp] theorem modPins_rfx (f : Pins → Pins) (s : State) : ((modPins f).run s).units.rfx = s.units.rfx := rfl
@[simp] theorem modPins_pins (f : Pins → Pins) (s : State) : ((modPins f).run s).units.pins = f s.units.pins := rfl
@[simp] theorem modPins_flt (f : Pins → Pins) (s : State) : ((modPins f).run s).units.flt = s.units.flt := rfl
@[simp] theorem modPins_trace (f : Pins → Pins) (s : State) : ((modPins f).run s).units.trace = s.units.trace := rfl
@[simp] theorem modPins_regs (f : Pins → Pins) (s : State) : ((modPins f).run s).regs = s.regs := rfl
@[simp] theorem modPins_mem (f : Pins → Pins) (s : State) : ((modPins f).run s).mem = s.mem := rfl
@[simp] theorem modPins_fuse (f : Pins → Pins) (s : State) : ((modPins f).run s).fuse = s.fuse := rfl
@[simp] theorem modPins_now (f : Pins → Pins) (s : State) : ((modPins f).run s).now = s.now := rfl
@[simp] theorem modPins_free (f : Pins → Pins) (s : State) : ((modPins f).run s).free = s.free := rfl
@[simp] theorem modPins_pending (f : Pins → Pins) (s : State) : ((modPins f).run s).pending = s.pending := rfl
@[simp] theorem modPins_cycle (f : Pins → Pins) (s : State) : ((modPins f).run s).cycle = s.cycle := rfl
@[simp] theorem modPins_stored (f : Pins → Pins) (s : State) (a : Nat) : ((modPins f).run s).stored a = s.stored a := rfl
@[simp] theorem modPins_rd8 (f : Pins → Pins) (s : State) (a : Nat) : ((modPins f).run s).rd8 a = s.rd8 a := rfl

@[simp] theorem modFlt_pwr (f : Flt → Flt) (s : State) : ((modFlt f).run s).units.pwr = s.units.pwr := rfl
@[simp] theorem modFlt_tick (f : Flt → Flt) (s : State) : ((modFlt f).run s).units.tick = s.units.tick := rfl
@[simp] theorem modFlt_stg (f : Flt → Flt) (s : State) : ((modFlt f).run s).units.stg = s.units.stg := rfl
@[simp] theorem modFlt_hp (f : Flt → Flt) (s : State) : ((modFlt f).run s).units.hp = s.units.hp := rfl
@[simp] theorem modFlt_link (f : Flt → Flt) (s : State) : ((modFlt f).run s).units.link = s.units.link := rfl
@[simp] theorem modFlt_en (f : Flt → Flt) (s : State) : ((modFlt f).run s).units.en = s.units.en := rfl
@[simp] theorem modFlt_eng (f : Flt → Flt) (s : State) : ((modFlt f).run s).units.eng = s.units.eng := rfl
@[simp] theorem modFlt_dsp (f : Flt → Flt) (s : State) : ((modFlt f).run s).units.dsp = s.units.dsp := rfl
@[simp] theorem modFlt_xe (f : Flt → Flt) (s : State) : ((modFlt f).run s).units.xe = s.units.xe := rfl
@[simp] theorem modFlt_qs (f : Flt → Flt) (s : State) : ((modFlt f).run s).units.qs = s.units.qs := rfl
@[simp] theorem modFlt_sm (f : Flt → Flt) (s : State) : ((modFlt f).run s).units.sm = s.units.sm := rfl
@[simp] theorem modFlt_res (f : Flt → Flt) (s : State) : ((modFlt f).run s).units.res = s.units.res := rfl
@[simp] theorem modFlt_img (f : Flt → Flt) (s : State) : ((modFlt f).run s).units.img = s.units.img := rfl
@[simp] theorem modFlt_wm (f : Flt → Flt) (s : State) : ((modFlt f).run s).units.wm = s.units.wm := rfl
@[simp] theorem modFlt_adc (f : Flt → Flt) (s : State) : ((modFlt f).run s).units.adc = s.units.adc := rfl
@[simp] theorem modFlt_rfx (f : Flt → Flt) (s : State) : ((modFlt f).run s).units.rfx = s.units.rfx := rfl
@[simp] theorem modFlt_pins (f : Flt → Flt) (s : State) : ((modFlt f).run s).units.pins = s.units.pins := rfl
@[simp] theorem modFlt_flt (f : Flt → Flt) (s : State) : ((modFlt f).run s).units.flt = f s.units.flt := rfl
@[simp] theorem modFlt_trace (f : Flt → Flt) (s : State) : ((modFlt f).run s).units.trace = s.units.trace := rfl
@[simp] theorem modFlt_regs (f : Flt → Flt) (s : State) : ((modFlt f).run s).regs = s.regs := rfl
@[simp] theorem modFlt_mem (f : Flt → Flt) (s : State) : ((modFlt f).run s).mem = s.mem := rfl
@[simp] theorem modFlt_fuse (f : Flt → Flt) (s : State) : ((modFlt f).run s).fuse = s.fuse := rfl
@[simp] theorem modFlt_now (f : Flt → Flt) (s : State) : ((modFlt f).run s).now = s.now := rfl
@[simp] theorem modFlt_free (f : Flt → Flt) (s : State) : ((modFlt f).run s).free = s.free := rfl
@[simp] theorem modFlt_pending (f : Flt → Flt) (s : State) : ((modFlt f).run s).pending = s.pending := rfl
@[simp] theorem modFlt_cycle (f : Flt → Flt) (s : State) : ((modFlt f).run s).cycle = s.cycle := rfl
@[simp] theorem modFlt_stored (f : Flt → Flt) (s : State) (a : Nat) : ((modFlt f).run s).stored a = s.stored a := rfl
@[simp] theorem modFlt_rd8 (f : Flt → Flt) (s : State) (a : Nat) : ((modFlt f).run s).rd8 a = s.rd8 a := rfl

@[simp] theorem modTrace_pwr (f : Trace → Trace) (s : State) : ((modTrace f).run s).units.pwr = s.units.pwr := rfl
@[simp] theorem modTrace_tick (f : Trace → Trace) (s : State) : ((modTrace f).run s).units.tick = s.units.tick := rfl
@[simp] theorem modTrace_stg (f : Trace → Trace) (s : State) : ((modTrace f).run s).units.stg = s.units.stg := rfl
@[simp] theorem modTrace_hp (f : Trace → Trace) (s : State) : ((modTrace f).run s).units.hp = s.units.hp := rfl
@[simp] theorem modTrace_link (f : Trace → Trace) (s : State) : ((modTrace f).run s).units.link = s.units.link := rfl
@[simp] theorem modTrace_en (f : Trace → Trace) (s : State) : ((modTrace f).run s).units.en = s.units.en := rfl
@[simp] theorem modTrace_eng (f : Trace → Trace) (s : State) : ((modTrace f).run s).units.eng = s.units.eng := rfl
@[simp] theorem modTrace_dsp (f : Trace → Trace) (s : State) : ((modTrace f).run s).units.dsp = s.units.dsp := rfl
@[simp] theorem modTrace_xe (f : Trace → Trace) (s : State) : ((modTrace f).run s).units.xe = s.units.xe := rfl
@[simp] theorem modTrace_qs (f : Trace → Trace) (s : State) : ((modTrace f).run s).units.qs = s.units.qs := rfl
@[simp] theorem modTrace_sm (f : Trace → Trace) (s : State) : ((modTrace f).run s).units.sm = s.units.sm := rfl
@[simp] theorem modTrace_res (f : Trace → Trace) (s : State) : ((modTrace f).run s).units.res = s.units.res := rfl
@[simp] theorem modTrace_img (f : Trace → Trace) (s : State) : ((modTrace f).run s).units.img = s.units.img := rfl
@[simp] theorem modTrace_wm (f : Trace → Trace) (s : State) : ((modTrace f).run s).units.wm = s.units.wm := rfl
@[simp] theorem modTrace_adc (f : Trace → Trace) (s : State) : ((modTrace f).run s).units.adc = s.units.adc := rfl
@[simp] theorem modTrace_rfx (f : Trace → Trace) (s : State) : ((modTrace f).run s).units.rfx = s.units.rfx := rfl
@[simp] theorem modTrace_pins (f : Trace → Trace) (s : State) : ((modTrace f).run s).units.pins = s.units.pins := rfl
@[simp] theorem modTrace_flt (f : Trace → Trace) (s : State) : ((modTrace f).run s).units.flt = s.units.flt := rfl
@[simp] theorem modTrace_trace (f : Trace → Trace) (s : State) : ((modTrace f).run s).units.trace = f s.units.trace := rfl
@[simp] theorem modTrace_regs (f : Trace → Trace) (s : State) : ((modTrace f).run s).regs = s.regs := rfl
@[simp] theorem modTrace_mem (f : Trace → Trace) (s : State) : ((modTrace f).run s).mem = s.mem := rfl
@[simp] theorem modTrace_fuse (f : Trace → Trace) (s : State) : ((modTrace f).run s).fuse = s.fuse := rfl
@[simp] theorem modTrace_now (f : Trace → Trace) (s : State) : ((modTrace f).run s).now = s.now := rfl
@[simp] theorem modTrace_free (f : Trace → Trace) (s : State) : ((modTrace f).run s).free = s.free := rfl
@[simp] theorem modTrace_pending (f : Trace → Trace) (s : State) : ((modTrace f).run s).pending = s.pending := rfl
@[simp] theorem modTrace_cycle (f : Trace → Trace) (s : State) : ((modTrace f).run s).cycle = s.cycle := rfl
@[simp] theorem modTrace_stored (f : Trace → Trace) (s : State) (a : Nat) : ((modTrace f).run s).stored a = s.stored a := rfl
@[simp] theorem modTrace_rd8 (f : Trace → Trace) (s : State) (a : Nat) : ((modTrace f).run s).rd8 a = s.rd8 a := rfl

@[simp] theorem units_stored (f : Units → Units) (s : State) (x : Nat) : ((.units f : Prog).run s).stored x = s.stored x := rfl
@[simp] theorem units_rd8 (f : Units → Units) (s : State) (x : Nat) : ((.units f : Prog).run s).rd8 x = s.rd8 x := rfl
@[simp] theorem reg_rd8 (a : Nat) (v : Word) (s : State) (x : Nat) : ((.reg a v : Prog).run s).rd8 x = s.rd8 x := rfl
@[simp] theorem mem_stored (a : Nat) (bs : List Byte) (s : State) (x : Nat) : ((.mem a bs : Prog).run s).stored x = s.stored x := rfl
@[simp] theorem lose_stored (lo hi : Nat) (s : State) (x : Nat) : ((.lose lo hi : Prog).run s).stored x = s.stored x := rfl
@[simp] theorem draw_stored (s : State) (x : Nat) : ((.draw : Prog).run s).stored x = s.stored x := rfl
@[simp] theorem draw_rd8 (s : State) (x : Nat) : ((.draw : Prog).run s).rd8 x = s.rd8 x := rfl

end Sys2Proof.Machine
end

