-- ==== Sys2Proof/Laws/Prog.lean ====
section
/-! SUPPORT. What any command can do: every meaning is a program, and a program keeps the canonical forms, the fuses, the queue
and the clock. -/

namespace Sys2Proof.Machine

/-- A program keeps a property of the state. -/
def Prog.Keeps (I : State → Prop) (p : Prog) : Prop := ∀ s, I s → I (p.run s)

theorem keeps_skip {I : State → Prop} : Prog.Keeps I .skip := fun _ h => h

theorem keeps_seq {I : State → Prop} {p q : Prog} (hp : p.Keeps I) (hq : q.Keeps I) : (Prog.seq p q).Keeps I :=
  fun s h => hq _ (hp s h)

theorem keeps_look {I : State → Prop} {k : State → Prog} (h : ∀ s, I s → I ((k s).run s)) : (Prog.look k).Keeps I := h

theorem keeps_look_all {I : State → Prop} {k : State → Prog} (h : ∀ s, (k s).Keeps I) : (Prog.look k).Keeps I := fun s => h s s

theorem keeps_all {I : State → Prop} {l : List Prog} (h : ∀ p ∈ l, p.Keeps I) : (Prog.all l).Keeps I := by
  induction l with
  | nil => exact keeps_skip
  | cons p t ih => exact keeps_seq (h p (by simp)) (ih fun q hq => h q (by simp [hq]))

theorem keeps_each {α : Type} {I : State → Prop} {l : List α} {f : α → Prog} (h : ∀ x ∈ l, (f x).Keeps I) :
    (Prog.each l f).Keeps I := by
  apply keeps_all
  intro p hp
  obtain ⟨x, hx, rfl⟩ := List.mem_map.mp hp
  exact h x hx

theorem keeps_when {I : State → Prop} {b : Bool} {p : Prog} (h : b = true → p.Keeps I) : (Prog.when b p).Keeps I := by
  cases b
  · exact keeps_skip
  · exact h rfl

theorem keeps_times {I : State → Prop} {n : Nat} {p : Prog} (h : p.Keeps I) : (Prog.times n p).Keeps I := by
  induction n with
  | zero => exact keeps_skip
  | succ n ih => exact keeps_seq h ih

theorem writeAll_mapped {m : List Host.Cell} {a : Nat} {bs : List Byte} (h : ∀ c ∈ m, (regionOf c.1).isSome = true) :
    ∀ c ∈ Memory.writeAll m a bs, (regionOf c.1).isSome = true := by
  induction bs generalizing m a with
  | nil => exact h
  | cons b t ih =>
    refine ih (m := Memory.write m a b) fun c hc => ?_
    unfold Memory.write at hc
    split at hc
    · rcases AMap.mem_put hc with rfl | hc
      · assumption
      · exact h c hc
    · exact h c hc

/-- Every program keeps the canonical forms. -/
theorem run_safe (p : Prog) : p.Keeps State.safe := by
  induction p with
  | skip => exact keeps_skip
  | seq p q hp hq => exact keeps_seq hp hq
  | units f => exact fun s h => h
  | reg a v =>
    refine fun s h => ⟨h.1, AMap.put_canon h.2.1 (Nat.zero_le _), fun e he => ?_⟩
    rcases AMap.mem_put he with rfl | he
    · simp [BitVec.and_assoc]
    · exact h.2.2 e he
  | mem a bs => exact fun s h => ⟨⟨Memory.writeAll_wf h.1.1, writeAll_mapped h.1.2⟩, h.2⟩
  | lose lo hi => exact fun s h => ⟨⟨Memory.lose_wf h.1.1, fun c hc => h.1.2 c (List.mem_of_mem_filter hc)⟩, h.2⟩
  | draw => exact fun s h => h
  | note f => exact fun s h => h
  | look k ih => exact keeps_look_all ih

/-- What no program changes: the fuses, the queue and the clock. -/
theorem run_fixed (p : Prog) (s : State) : (p.run s).fuse = s.fuse ∧ (p.run s).pending = s.pending ∧ (p.run s).now = s.now := by
  induction p generalizing s with
  | skip | units | reg | mem | lose | draw | note => exact ⟨rfl, rfl, rfl⟩
  | seq p q hp hq => exact ⟨(hq _).1.trans (hp s).1, (hq _).2.1.trans (hp s).2.1, (hq _).2.2.trans (hp s).2.2⟩
  | look k ih => exact ih s s

/-- Free values are only ever drawn. -/
theorem run_free (p : Prog) (s : State) : s.free ≤ (p.run s).free := by
  induction p generalizing s with
  | skip | units | reg | mem | lose | note => exact Nat.le_refl _
  | draw => exact Nat.le_succ _
  | seq p q hp hq => exact Nat.le_trans (hp s) (hq _)
  | look k ih => exact ih s s

/-- An answer that is a next state is what some program makes of the state. -/
def Runs (o : Host.Outcome State Fault Refusal) (s : State) : Prop := ∀ t, o = .next t → ∃ p : Prog, t = p.run s

theorem runs_next (p : Prog) (s : State) : Runs (p.next s) s := fun _ h => ⟨p, by injection h with h; exact h.symm⟩

end Sys2Proof.Machine
end

