-- ==== Sys2Proof/Laws/Exec.lean ====
section
/-! SUPPORT. Every command's answer is what some program makes of the state, so no command stops. -/

namespace Sys2Proof.Machine

/-- Every command's next state is what some program makes of the state. -/
theorem exec_runs (c : Instr) (s : State) : Runs (exec c s) s := by
  cases c <;> exact runs_next _ s

end Sys2Proof.Machine
end

