-- ==== Sys2Proof/WellFormed.lean ====
section
/-! DEFINITION. Well-formed commands: the bounds that the spec puts on what a transaction, a frame or an event can carry.
A command that is not well formed cannot occur on the hardware; exec answers it all the same. -/

namespace Sys2Proof

/-- A request's payload is at most 4,096 bytes (R209). -/
def Req.wf (r : Req) : Bool := decide (r.payload.length ≤ 4096)

/-- A frame's payload has even length within the bounds of its TYPE (R140, Table 4-4). -/
def RxFrame.wf (f : RxFrame) (lo hi : Nat) : Bool :=
  decide (f.payload.length % 2 = 0) && decide (lo ≤ f.payload.length) && decide (f.payload.length ≤ hi)

/-- Bounds on a command's operands: payload lengths, the six sensors (Table 1-1), the 72 units (R364), the 512 entries
(R56), 64 samples of a calibration step (R650), 768 rows of 1,024 pixels (R543), addresses of a row (R29). -/
def Instr.wf : Instr → Bool
  | .hpWriteRequest bytes => decide (bytes.length ≤ 65536)
  | .ping r | .ident r | .enumerate r | .regRd r | .regWr r | .regRdBlock r | .memRd r | .memWr r | .stageWr r | .check r
  | .commit r | .commitAt r | .discard r | .store r | .recall r | .loadImage r | .start r | .stop r | .selectGrade r
  | .setLevel r | .adcCal r | .adcSnapshot r | .haltRelease r | .traceRd r | .faultRd r | .faultClr r | .resultRd r
  | .resetNode r | .fwUpdate r => r.wf
  | .rtoExpiry dest _ => decide (dest ≠ 0)
  | .registerWrite addr _ => decide (addr.toNat % 4 = 0)
  | .adcCalStepComplete _ samples refLost => decide (samples.length ≤ 64) && (refLost || decide (samples.length = 64))
  | .slotStart entry | .reservationEnd entry => decide (entry < 512)
  | .thermalSample temps | .thermHoldSample temps => decide (temps.length = 6)
  | .tileComplete unit => decide (unit < 72)
  | .stall unit _ => decide (unit < 72)
  | .train _ _ addr _ => decide (addr.toNat ≤ 32)
  | .haltSet _ src _ _ _ => decide (src.toNat ≤ 32)
  | .pkt _ f => f.wf 8 4160
  | .tokA _ f => f.wf 2 4096
  | .tokB _ f => f.wf 14 328
  | .enumOffer _ f | .enumReply _ f | .endReply _ f | .overflowReply _ f => f.wf 16 16
  | .event _ f => f.wf 12 12
  | .imagerRow row light _ => decide (row < 768) && decide (light.length ≤ 16384)
  | .unknownCommandByte x => decide (x.bytes.length ≤ 65536)
  | .unknownOrderedSet _ type => decide (type ∉ [0x10#8, 0x20#8, 0x21#8, 0x30#8, 0x31#8, 0x32#8, 0x33#8, 0x40#8, 0x41#8])
  | .hpReadReply _ | .hpReadStatus | .storeComplete _ | .resetNodeDelayExpiry | .tickEnSet | .tickEnClear | .clr
  | .swRegularTrigger _ | .swInjectedTrigger _ | .go | .wmProgComplete _ | .cntClr | .adcDataRead _ | .qmaxRead _
  | .fltRowRead | .resetNAssert _ | .resetNRise _ | .brownOut _ | .brownOutRelease | .pixBrown | .vddPixRestore | .wdt
  | .bootWdt | .reflexArmed _ | .firmwareSlotStart | .keeperUp _ _ | .bistComplete _ | .levelPowerUpComplete | .tickEdge _
  | .tickSetLaunch | .tickInEdge | .tickLost | .endOfTicking | .tickEdgesStop | .freeRunPassEnd _ | .guardStart
  | .entryComplete _ | .resultPageCopyComplete | .tickOutPulseEnd | .thermalIntervalEnd | .watchTimerEdge | .nop _
  | .sync _ | .syncRelease _ | .syncTmo _ | .signal _ | .waitSlot _ | .waitSlotRelease _ | .shapeSet _ | .matmul _
  | .conv _ | .attend _ | .route | .quant | .rotate | .vecop | .scatter | .sort | .exchange | .combine | .pixel
  | .heldEnqueue _ | .tileHandOut _ | .smMoveComplete | .tickSet _ _ | .ack _ _ | .nak _ _ _ | .seqsync _ _ _
  | .credit _ _ _ | .probe _ _ | .echo _ _ | .skp _ | .orderedSetDiscard _ | .pairDrop _ _ | .inboundWindowClose
  | .badFrame _ _ | .edbFrame _ | .storedFrameForward _ | .ackTimeout _ | .winExpiry _ | .linkDown _ | .dnWaitExpiry
  | .enumEndTimeout | .creditRefresh _ | .skpInterval _ | .cmpRawChange _ _ | .cmpFilterExpiry _ | .autoRelease _
  | .adcTimerTrigger _ | .conversionDone _ _ | .moverCloseComplete | .refReady | .refLoss | .armingTime | .strobeAssert
  | .exposureStart | .exposureEnd | .strobeRelease | .pixelComplete | .imgReady | .gpioEdge _ _ | .handOverEnd
  | .faultRecord | .blackBoxCopy _ | .traceSyncPulseEnd _ => true

end Sys2Proof
end

