-- ==== Sys2Proof/Laws/PerInstr.lean ====
section
/-! SUPPORT. What well-formedness says of each command, constructor by constructor: a well-formed request carries at most
4,096 payload bytes (R209), and a well-formed received frame an even payload of at most 4,160 bytes (R140, Table 4-4). -/

namespace Sys2Proof

/-- The request that a command carries, if it carries one. -/
def Instr.request? : Instr → Option Req
  | .ping r | .ident r | .enumerate r | .regRd r | .regWr r | .regRdBlock r | .memRd r | .memWr r | .stageWr r
  | .check r | .commit r | .commitAt r | .discard r | .store r | .recall r | .loadImage r | .start r | .stop r
  | .selectGrade r | .setLevel r | .adcCal r | .adcSnapshot r | .haltRelease r | .traceRd r | .faultRd r
  | .faultClr r | .resultRd r | .resetNode r | .fwUpdate r => some r
  | _ => none

/-- The received frame that a command carries, if it carries one. -/
def Instr.frame? : Instr → Option RxFrame
  | .pkt _ f | .tokA _ f | .tokB _ f | .enumOffer _ f | .enumReply _ f | .endReply _ f | .overflowReply _ f | .event _ f => some f
  | _ => none

namespace Laws.WellFormed

/-- What the well-formedness of a command bounds: its request's payload, and its frame's payload. -/
def Statement (i : Instr) : Prop :=
  i.wf = true → (∀ r, i.request? = some r → r.payload.length ≤ 4096) ∧
    (∀ f, i.frame? = some f → f.payload.length % 2 = 0 ∧ f.payload.length ≤ 4160)

/-- A command that carries neither a request nor a frame meets the statement. -/
theorem of_neither {i : Instr} (hr : i.request? = none) (hf : i.frame? = none) : Statement i :=
  fun _ => ⟨fun r h => by simp [hr] at h, fun f h => by simp [hf] at h⟩

/-- A command that carries a request meets it by the request's bound. -/
theorem of_request {i : Instr} {q : Req} (hr : i.request? = some q) (hf : i.frame? = none) (hw : i.wf = q.wf) :
    Statement i := by
  intro h
  refine ⟨fun r e => ?_, fun f e => by simp [hf] at e⟩
  rw [hw] at h
  rw [hr] at e
  cases e
  exact of_decide_eq_true h

/-- A command that carries a frame meets it by the frame's bounds. -/
theorem of_frame {i : Instr} {g : RxFrame} {lo hi : Nat} (hhi : hi ≤ 4160) (hr : i.request? = none)
    (hf : i.frame? = some g) (hw : i.wf = g.wf lo hi) : Statement i := by
  intro h
  refine ⟨fun r e => by simp [hr] at e, fun f e => ?_⟩
  rw [hw] at h
  rw [hf] at e
  cases e
  simp only [RxFrame.wf, Bool.and_eq_true, decide_eq_true_eq] at h
  exact ⟨h.1.1, Nat.le_trans h.2 hhi⟩

end Laws.WellFormed

theorem Laws.WellFormed.hpWriteRequest (bytes : List Byte) : Statement (.hpWriteRequest bytes) := of_neither rfl rfl
theorem Laws.WellFormed.hpReadReply (clocked : Nat) : Statement (.hpReadReply clocked) := of_neither rfl rfl
theorem Laws.WellFormed.hpReadStatus : Statement .hpReadStatus := of_neither rfl rfl
theorem Laws.WellFormed.unknownCommandByte (x : Transaction) : Statement (.unknownCommandByte x) := of_neither rfl rfl
theorem Laws.WellFormed.ping (r : Req) : Statement (.ping r) := of_request rfl rfl rfl
theorem Laws.WellFormed.ident (r : Req) : Statement (.ident r) := of_request rfl rfl rfl
theorem Laws.WellFormed.enumerate (r : Req) : Statement (.enumerate r) := of_request rfl rfl rfl
theorem Laws.WellFormed.regRd (r : Req) : Statement (.regRd r) := of_request rfl rfl rfl
theorem Laws.WellFormed.regWr (r : Req) : Statement (.regWr r) := of_request rfl rfl rfl
theorem Laws.WellFormed.regRdBlock (r : Req) : Statement (.regRdBlock r) := of_request rfl rfl rfl
theorem Laws.WellFormed.memRd (r : Req) : Statement (.memRd r) := of_request rfl rfl rfl
theorem Laws.WellFormed.memWr (r : Req) : Statement (.memWr r) := of_request rfl rfl rfl
theorem Laws.WellFormed.stageWr (r : Req) : Statement (.stageWr r) := of_request rfl rfl rfl
theorem Laws.WellFormed.check (r : Req) : Statement (.check r) := of_request rfl rfl rfl
theorem Laws.WellFormed.commit (r : Req) : Statement (.commit r) := of_request rfl rfl rfl
theorem Laws.WellFormed.commitAt (r : Req) : Statement (.commitAt r) := of_request rfl rfl rfl
theorem Laws.WellFormed.discard (r : Req) : Statement (.discard r) := of_request rfl rfl rfl
theorem Laws.WellFormed.store (r : Req) : Statement (.store r) := of_request rfl rfl rfl
theorem Laws.WellFormed.storeComplete (verified : Bool) : Statement (.storeComplete verified) := of_neither rfl rfl
theorem Laws.WellFormed.recall (r : Req) : Statement (.recall r) := of_request rfl rfl rfl
theorem Laws.WellFormed.loadImage (r : Req) : Statement (.loadImage r) := of_request rfl rfl rfl
theorem Laws.WellFormed.start (r : Req) : Statement (.start r) := of_request rfl rfl rfl
theorem Laws.WellFormed.stop (r : Req) : Statement (.stop r) := of_request rfl rfl rfl
theorem Laws.WellFormed.selectGrade (r : Req) : Statement (.selectGrade r) := of_request rfl rfl rfl
theorem Laws.WellFormed.setLevel (r : Req) : Statement (.setLevel r) := of_request rfl rfl rfl
theorem Laws.WellFormed.adcCal (r : Req) : Statement (.adcCal r) := of_request rfl rfl rfl
theorem Laws.WellFormed.adcCalStepComplete (c : Conv) (samples : List Source) (refLost : Bool) : Statement (.adcCalStepComplete c samples refLost) := of_neither rfl rfl
theorem Laws.WellFormed.adcSnapshot (r : Req) : Statement (.adcSnapshot r) := of_request rfl rfl rfl
theorem Laws.WellFormed.haltRelease (r : Req) : Statement (.haltRelease r) := of_request rfl rfl rfl
theorem Laws.WellFormed.traceRd (r : Req) : Statement (.traceRd r) := of_request rfl rfl rfl
theorem Laws.WellFormed.faultRd (r : Req) : Statement (.faultRd r) := of_request rfl rfl rfl
theorem Laws.WellFormed.faultClr (r : Req) : Statement (.faultClr r) := of_request rfl rfl rfl
theorem Laws.WellFormed.resultRd (r : Req) : Statement (.resultRd r) := of_request rfl rfl rfl
theorem Laws.WellFormed.resetNode (r : Req) : Statement (.resetNode r) := of_request rfl rfl rfl
theorem Laws.WellFormed.resetNodeDelayExpiry : Statement .resetNodeDelayExpiry := of_neither rfl rfl
theorem Laws.WellFormed.fwUpdate (r : Req) : Statement (.fwUpdate r) := of_request rfl rfl rfl
theorem Laws.WellFormed.rtoExpiry (dest : BitVec 6) (tag : Byte) : Statement (.rtoExpiry dest tag) := of_neither rfl rfl
theorem Laws.WellFormed.registerWrite (addr value : Word) : Statement (.registerWrite addr value) := of_neither rfl rfl
theorem Laws.WellFormed.tickEnSet : Statement .tickEnSet := of_neither rfl rfl
theorem Laws.WellFormed.tickEnClear : Statement .tickEnClear := of_neither rfl rfl
theorem Laws.WellFormed.clr : Statement .clr := of_neither rfl rfl
theorem Laws.WellFormed.swRegularTrigger (c : Conv) : Statement (.swRegularTrigger c) := of_neither rfl rfl
theorem Laws.WellFormed.swInjectedTrigger (c : Conv) : Statement (.swInjectedTrigger c) := of_neither rfl rfl
theorem Laws.WellFormed.go : Statement .go := of_neither rfl rfl
theorem Laws.WellFormed.wmProgComplete (verified : Bool) : Statement (.wmProgComplete verified) := of_neither rfl rfl
theorem Laws.WellFormed.cntClr : Statement .cntClr := of_neither rfl rfl
theorem Laws.WellFormed.adcDataRead (c : Conv) : Statement (.adcDataRead c) := of_neither rfl rfl
theorem Laws.WellFormed.qmaxRead (i : Fin 4) : Statement (.qmaxRead i) := of_neither rfl rfl
theorem Laws.WellFormed.fltRowRead : Statement .fltRowRead := of_neither rfl rfl
theorem Laws.WellFormed.resetNAssert (lowNs : Nat) : Statement (.resetNAssert lowNs) := of_neither rfl rfl
theorem Laws.WellFormed.resetNRise (straps : Straps) : Statement (.resetNRise straps) := of_neither rfl rfl
theorem Laws.WellFormed.brownOut (supply : Supply) : Statement (.brownOut supply) := of_neither rfl rfl
theorem Laws.WellFormed.brownOutRelease : Statement .brownOutRelease := of_neither rfl rfl
theorem Laws.WellFormed.pixBrown : Statement .pixBrown := of_neither rfl rfl
theorem Laws.WellFormed.vddPixRestore : Statement .vddPixRestore := of_neither rfl rfl
theorem Laws.WellFormed.wdt : Statement .wdt := of_neither rfl rfl
theorem Laws.WellFormed.bootWdt : Statement .bootWdt := of_neither rfl rfl
theorem Laws.WellFormed.reflexArmed (mramReads : Bool) : Statement (.reflexArmed mramReads) := of_neither rfl rfl
theorem Laws.WellFormed.firmwareSlotStart : Statement .firmwareSlotStart := of_neither rfl rfl
theorem Laws.WellFormed.keeperUp (refReady rowLinkOk : Bool) : Statement (.keeperUp refReady rowLinkOk) := of_neither rfl rfl
theorem Laws.WellFormed.bistComplete (b : Bist) : Statement (.bistComplete b) := of_neither rfl rfl
theorem Laws.WellFormed.levelPowerUpComplete : Statement .levelPowerUpComplete := of_neither rfl rfl
theorem Laws.WellFormed.tickEdge (sp : Spend) : Statement (.tickEdge sp) := of_neither rfl rfl
theorem Laws.WellFormed.tickSetLaunch : Statement .tickSetLaunch := of_neither rfl rfl
theorem Laws.WellFormed.tickInEdge : Statement .tickInEdge := of_neither rfl rfl
theorem Laws.WellFormed.tickLost : Statement .tickLost := of_neither rfl rfl
theorem Laws.WellFormed.endOfTicking : Statement .endOfTicking := of_neither rfl rfl
theorem Laws.WellFormed.tickEdgesStop : Statement .tickEdgesStop := of_neither rfl rfl
theorem Laws.WellFormed.freeRunPassEnd (sp : Spend) : Statement (.freeRunPassEnd sp) := of_neither rfl rfl
theorem Laws.WellFormed.slotStart (entry : Nat) : Statement (.slotStart entry) := of_neither rfl rfl
theorem Laws.WellFormed.reservationEnd (entry : Nat) : Statement (.reservationEnd entry) := of_neither rfl rfl
theorem Laws.WellFormed.guardStart : Statement .guardStart := of_neither rfl rfl
theorem Laws.WellFormed.entryComplete (e : Engine) : Statement (.entryComplete e) := of_neither rfl rfl
theorem Laws.WellFormed.resultPageCopyComplete : Statement .resultPageCopyComplete := of_neither rfl rfl
theorem Laws.WellFormed.tickOutPulseEnd : Statement .tickOutPulseEnd := of_neither rfl rfl
theorem Laws.WellFormed.thermalSample (temps : List Int) : Statement (.thermalSample temps) := of_neither rfl rfl
theorem Laws.WellFormed.thermalIntervalEnd : Statement .thermalIntervalEnd := of_neither rfl rfl
theorem Laws.WellFormed.thermHoldSample (temps : List Int) : Statement (.thermHoldSample temps) := of_neither rfl rfl
theorem Laws.WellFormed.watchTimerEdge : Statement .watchTimerEdge := of_neither rfl rfl
theorem Laws.WellFormed.nop (e : Engine) : Statement (.nop e) := of_neither rfl rfl
theorem Laws.WellFormed.sync (e : Engine) : Statement (.sync e) := of_neither rfl rfl
theorem Laws.WellFormed.syncRelease (e : Engine) : Statement (.syncRelease e) := of_neither rfl rfl
theorem Laws.WellFormed.syncTmo (e : Engine) : Statement (.syncTmo e) := of_neither rfl rfl
theorem Laws.WellFormed.signal (e : Engine) : Statement (.signal e) := of_neither rfl rfl
theorem Laws.WellFormed.waitSlot (e : Engine) : Statement (.waitSlot e) := of_neither rfl rfl
theorem Laws.WellFormed.waitSlotRelease (e : Engine) : Statement (.waitSlotRelease e) := of_neither rfl rfl
theorem Laws.WellFormed.shapeSet (e : Engine) : Statement (.shapeSet e) := of_neither rfl rfl
theorem Laws.WellFormed.matmul (e : Engine) : Statement (.matmul e) := of_neither rfl rfl
theorem Laws.WellFormed.conv (e : Engine) : Statement (.conv e) := of_neither rfl rfl
theorem Laws.WellFormed.attend (e : Engine) : Statement (.attend e) := of_neither rfl rfl
theorem Laws.WellFormed.route : Statement .route := of_neither rfl rfl
theorem Laws.WellFormed.quant : Statement .quant := of_neither rfl rfl
theorem Laws.WellFormed.rotate : Statement .rotate := of_neither rfl rfl
theorem Laws.WellFormed.vecop : Statement .vecop := of_neither rfl rfl
theorem Laws.WellFormed.scatter : Statement .scatter := of_neither rfl rfl
theorem Laws.WellFormed.sort : Statement .sort := of_neither rfl rfl
theorem Laws.WellFormed.exchange : Statement .exchange := of_neither rfl rfl
theorem Laws.WellFormed.combine : Statement .combine := of_neither rfl rfl
theorem Laws.WellFormed.pixel : Statement .pixel := of_neither rfl rfl
theorem Laws.WellFormed.heldEnqueue (e : Engine) : Statement (.heldEnqueue e) := of_neither rfl rfl
theorem Laws.WellFormed.tileHandOut (g : Group) : Statement (.tileHandOut g) := of_neither rfl rfl
theorem Laws.WellFormed.tileComplete (unit : Nat) : Statement (.tileComplete unit) := of_neither rfl rfl
theorem Laws.WellFormed.stall (unit waitUs : Nat) : Statement (.stall unit waitUs) := of_neither rfl rfl
theorem Laws.WellFormed.smMoveComplete : Statement .smMoveComplete := of_neither rfl rfl
theorem Laws.WellFormed.train (p : Port) (lane : TrainLane) (addr : BitVec 6) (product : Byte) : Statement (.train p lane addr product) := of_neither rfl rfl
theorem Laws.WellFormed.tickSet (num : Word) (corr : Byte) : Statement (.tickSet num corr) := of_neither rfl rfl
theorem Laws.WellFormed.haltSet (p : Port) (src : BitVec 6) (release : Bool) (mask : BitVec 4) (hseq : Byte) : Statement (.haltSet p src release mask hseq) := of_neither rfl rfl
theorem Laws.WellFormed.ack (p : Port) (seq : Byte) : Statement (.ack p seq) := of_neither rfl rfl
theorem Laws.WellFormed.nak (p : Port) (seq : Byte) (reason : Byte) : Statement (.nak p seq reason) := of_neither rfl rfl
theorem Laws.WellFormed.seqsync (p : Port) (next count : Byte) : Statement (.seqsync p next count) := of_neither rfl rfl
theorem Laws.WellFormed.credit (p : Port) (class1 : Bool) (released : BitVec 16) : Statement (.credit p class1 released) := of_neither rfl rfl
theorem Laws.WellFormed.probe (p : Port) (index : Byte) : Statement (.probe p index) := of_neither rfl rfl
theorem Laws.WellFormed.echo (index : Byte) (roundTrip : Nat) : Statement (.echo index roundTrip) := of_neither rfl rfl
theorem Laws.WellFormed.skp (p : Port) : Statement (.skp p) := of_neither rfl rfl
theorem Laws.WellFormed.unknownOrderedSet (p : Port) (type : Byte) : Statement (.unknownOrderedSet p type) := of_neither rfl rfl
theorem Laws.WellFormed.orderedSetDiscard (x : Reception) : Statement (.orderedSetDiscard x) := of_neither rfl rfl
theorem Laws.WellFormed.pkt (p : Port) (f : RxFrame) : Statement (.pkt p f) := of_frame (by decide) rfl rfl rfl
theorem Laws.WellFormed.tokA (p : Port) (f : RxFrame) : Statement (.tokA p f) := of_frame (by decide) rfl rfl rfl
theorem Laws.WellFormed.tokB (p : Port) (f : RxFrame) : Statement (.tokB p f) := of_frame (by decide) rfl rfl rfl
theorem Laws.WellFormed.pairDrop (src : BitVec 6) (pair : BitVec 16) : Statement (.pairDrop src pair) := of_neither rfl rfl
theorem Laws.WellFormed.inboundWindowClose : Statement .inboundWindowClose := of_neither rfl rfl
theorem Laws.WellFormed.enumOffer (p : Port) (f : RxFrame) : Statement (.enumOffer p f) := of_frame (by decide) rfl rfl rfl
theorem Laws.WellFormed.enumReply (p : Port) (f : RxFrame) : Statement (.enumReply p f) := of_frame (by decide) rfl rfl rfl
theorem Laws.WellFormed.endReply (p : Port) (f : RxFrame) : Statement (.endReply p f) := of_frame (by decide) rfl rfl rfl
theorem Laws.WellFormed.overflowReply (p : Port) (f : RxFrame) : Statement (.overflowReply p f) := of_frame (by decide) rfl rfl rfl
theorem Laws.WellFormed.event (p : Port) (f : RxFrame) : Statement (.event p f) := of_frame (by decide) rfl rfl rfl
theorem Laws.WellFormed.badFrame (p : Port) (l : Lanes) : Statement (.badFrame p l) := of_neither rfl rfl
theorem Laws.WellFormed.edbFrame (x : Reception) : Statement (.edbFrame x) := of_neither rfl rfl
theorem Laws.WellFormed.storedFrameForward (p : Port) : Statement (.storedFrameForward p) := of_neither rfl rfl
theorem Laws.WellFormed.ackTimeout (p : Port) : Statement (.ackTimeout p) := of_neither rfl rfl
theorem Laws.WellFormed.winExpiry (p : Port) : Statement (.winExpiry p) := of_neither rfl rfl
theorem Laws.WellFormed.linkDown (p : Port) : Statement (.linkDown p) := of_neither rfl rfl
theorem Laws.WellFormed.dnWaitExpiry : Statement .dnWaitExpiry := of_neither rfl rfl
theorem Laws.WellFormed.enumEndTimeout : Statement .enumEndTimeout := of_neither rfl rfl
theorem Laws.WellFormed.creditRefresh (p : Port) : Statement (.creditRefresh p) := of_neither rfl rfl
theorem Laws.WellFormed.skpInterval (p : Port) : Statement (.skpInterval p) := of_neither rfl rfl
theorem Laws.WellFormed.cmpRawChange (n : Fin 4) (src : Source) : Statement (.cmpRawChange n src) := of_neither rfl rfl
theorem Laws.WellFormed.cmpFilterExpiry (n : Fin 4) : Statement (.cmpFilterExpiry n) := of_neither rfl rfl
theorem Laws.WellFormed.autoRelease (n : Fin 4) : Statement (.autoRelease n) := of_neither rfl rfl
theorem Laws.WellFormed.adcTimerTrigger (c : Conv) : Statement (.adcTimerTrigger c) := of_neither rfl rfl
theorem Laws.WellFormed.conversionDone (c : Conv) (src : Source) : Statement (.conversionDone c src) := of_neither rfl rfl
theorem Laws.WellFormed.moverCloseComplete : Statement .moverCloseComplete := of_neither rfl rfl
theorem Laws.WellFormed.refReady : Statement .refReady := of_neither rfl rfl
theorem Laws.WellFormed.refLoss : Statement .refLoss := of_neither rfl rfl
theorem Laws.WellFormed.armingTime : Statement .armingTime := of_neither rfl rfl
theorem Laws.WellFormed.strobeAssert : Statement .strobeAssert := of_neither rfl rfl
theorem Laws.WellFormed.exposureStart : Statement .exposureStart := of_neither rfl rfl
theorem Laws.WellFormed.exposureEnd : Statement .exposureEnd := of_neither rfl rfl
theorem Laws.WellFormed.strobeRelease : Statement .strobeRelease := of_neither rfl rfl
theorem Laws.WellFormed.imagerRow (row : Nat) (light : List Nat) (corrupt : BitVec 16) : Statement (.imagerRow row light corrupt) := of_neither rfl rfl
theorem Laws.WellFormed.pixelComplete : Statement .pixelComplete := of_neither rfl rfl
theorem Laws.WellFormed.imgReady : Statement .imgReady := of_neither rfl rfl
theorem Laws.WellFormed.gpioEdge (n : Fin 8) (drive : Option Bool) : Statement (.gpioEdge n drive) := of_neither rfl rfl
theorem Laws.WellFormed.handOverEnd : Statement .handOverEnd := of_neither rfl rfl
theorem Laws.WellFormed.faultRecord : Statement .faultRecord := of_neither rfl rfl
theorem Laws.WellFormed.blackBoxCopy (readBack : Bool) : Statement (.blackBoxCopy readBack) := of_neither rfl rfl
theorem Laws.WellFormed.traceSyncPulseEnd (n : Fin 8) : Statement (.traceSyncPulseEnd n) := of_neither rfl rfl

end Sys2Proof
end

