-- ==== Sys2Proof/Laws/Registers.lean ====
section
/-! SUPPORT. Laws of register words: fields, masked writes, what a write of a register leaves of it, and the W1C flags. -/

namespace Sys2Proof.Machine

theorem bit_eq (w : Word) (n : Nat) : bit w n = w.getLsbD n := rfl

@[simp] theorem getLsbD_masked (old mask v : Word) (n : Nat) :
    (masked old mask v).getLsbD n = if mask.getLsbD n then v.getLsbD n else old.getLsbD n := by
  unfold masked
  rw [BitVec.getLsbD_or, BitVec.getLsbD_and, BitVec.getLsbD_and, BitVec.getLsbD_not]
  by_cases hn : n < 32
  · cases mask.getLsbD n <;> simp [hn]
  · simp [BitVec.getLsbD_of_ge _ _ (Nat.le_of_not_lt hn)]

theorem masked_and (old mask v k : Word) : masked old mask v &&& k = masked (old &&& k) mask (v &&& k) := by
  apply BitVec.eq_of_getLsbD_eq
  intro i _
  simp only [BitVec.getLsbD_and, getLsbD_masked]
  split <;> rfl

theorem getLsbD_place (v hi lo n : Nat) (hn : n < 32) :
    (place v hi lo).getLsbD n = (decide (lo ≤ n) && decide (n - lo < hi + 1 - lo) && v.testBit (n - lo)) := by
  unfold place
  rw [BitVec.getLsbD_ofNat]
  simp only [hn, decide_true, Bool.true_and, Nat.testBit_mul_two_pow, Nat.testBit_mod_two_pow, Bool.and_assoc]

theorem getLsbD_placeBit (b : Bool) (k n : Nat) (hn : n < 32) : (placeBit b k).getLsbD n = (b && decide (k = n)) := by
  unfold placeBit
  cases b
  · simp
  · simp only [if_true, BitVec.getLsbD_ofNat, hn, decide_true, Bool.true_and, Nat.testBit_two_pow]

set_option maxRecDepth 20000 in
/-- A reset word holds no bit outside the readable fields. -/
theorem resetWord_held (a : Nat) : resetWord a &&& ~~~heldMask a = 0 := by
  unfold resetWord heldMask
  cases h : regRow? a with
  | none => rfl
  | some r =>
    have hr : r ∈ regTable := List.mem_of_find?_eq_some h
    have key : ∀ r ∈ regTable, BitVec.ofNat 32 r.reset &&& ~~~BitVec.ofNat 32 (r.rw ||| r.st ||| r.w1c ||| r.rc ||| r.ro) = (0 : Word) := by
      decide
    exact key r hr

theorem AMap.get_mem {β : Type} {d : Nat → β} {m : List (Nat × β)} {k : Nat} {P : Nat → β → Prop} (h : ∀ e ∈ m, P e.1 e.2) (h0 : P k (d k)) :
    P k (AMap.get d m k) := by
  induction m with
  | nil => exact h0
  | cons e t ih =>
    obtain ⟨k', v⟩ := e
    unfold AMap.get
    split
    · rename_i hk
      exact hk ▸ h _ (List.mem_cons_self ..)
    · exact ih fun e he => h e (List.mem_cons_of_mem _ he)

/-- In a well-formed state no register holds a bit outside its readable fields. -/
theorem stored_held {s : State} (h : s.safe) (a : Nat) : s.stored a &&& ~~~heldMask a = 0 :=
  AMap.get_mem (P := fun k v => v &&& ~~~heldMask k = 0) h.2.2 (resetWord_held a)

theorem and_held {w m : Word} (h : w &&& ~~~m = 0) : w &&& m = w := by
  apply BitVec.eq_of_getLsbD_eq
  intro i hi
  have := congrArg (fun x : Word => x.getLsbD i) h
  simp only [BitVec.getLsbD_and, BitVec.getLsbD_not, hi, decide_true, Bool.true_and] at this ⊢
  revert this
  cases w.getLsbD i <;> cases m.getLsbD i <;> simp

theorem stored_and_held {s : State} (h : s.safe) (a : Nat) : s.stored a &&& heldMask a = s.stored a := and_held (stored_held h a)

/-- A write of a register leaves every other register alone. -/
theorem reg_stored_ne {a b : Nat} (v : Word) (s : State) (h : b ≠ a) : ((Prog.reg a v).run s).stored b = s.stored b :=
  AMap.get_put_ne h

/-- A register holds what was written, as far as its readable fields go. -/
theorem reg_stored_same {a : Nat} (v : Word) {s : State} (h : s.safe) : ((Prog.reg a v).run s).stored a = v &&& heldMask a :=
  AMap.get_put_same h.2.1

theorem setFld_stored_ne {a b hi lo v : Nat} (s : State) (h : b ≠ a) : ((setFld a hi lo v).run s).stored b = s.stored b :=
  reg_stored_ne _ s h

theorem addSat_stored_ne {a b hi lo v : Nat} (s : State) (h : b ≠ a) : ((addSat a hi lo v).run s).stored b = s.stored b :=
  reg_stored_ne _ s h

/-- Bits of a register after a write of one field. -/
theorem setFld_bit {a hi lo v n : Nat} {s : State} (h : s.safe) (hn : n < 32) :
    (((setFld a hi lo v).run s).stored a).getLsbD n =
      if lo ≤ n ∧ n - lo < hi + 1 - lo then v.testBit (n - lo) && (heldMask a).getLsbD n else (s.stored a).getLsbD n := by
  have hs : ((setFld a hi lo v).run s).stored a =
      masked (s.stored a) (place (2 ^ (hi + 1 - lo) - 1) hi lo) (place v hi lo) &&& heldMask a := reg_stored_same _ h
  have hh := congrArg (fun x : Word => x.getLsbD n) (stored_and_held h a)
  rw [hs]
  simp only [BitVec.getLsbD_and, getLsbD_masked, getLsbD_place _ _ _ _ hn, Nat.testBit_two_pow_sub_one] at hh ⊢
  by_cases h1 : lo ≤ n <;> by_cases h2 : n - lo < hi + 1 - lo <;> simp [h1, h2, hh]

theorem Flag.held : ∀ f : Flag, (heldMask f.site.1).getLsbD f.site.2.1 = true ∧ f.site.2.1 < 32 := by
  intro f
  cases f <;> decide

theorem Flag.apart : ∀ f : Flag, f.site.1 ≠ f.site.2.2.1 := by
  intro f
  cases f <;> decide

/-- A flag that is set reads 1. -/
theorem setFlag_flag (f : Flag) {s : State} (h : s.safe) : ((setFlag f).run s).flag f.site.1 f.site.2.1 = true := by
  have h1 := f.held
  have : ((setFlag f).run s).stored f.site.1 = ((setFld f.site.1 f.site.2.1 f.site.2.1 1).run s).stored f.site.1 :=
    addSat_stored_ne _ f.apart
  rw [State.flag, this, bit_eq, setFld_bit h h1.2]
  simp [h1.1]

end Sys2Proof.Machine
end

