-- ==== Sys2Proof/Laws/Reply.lean ====
section
/-! SUPPORT. What serving a request does (Table 5-6 from step 6 on): one lemma for each way it can go. -/

namespace Sys2Proof.Machine

theorem commonCheck_fresh {op : Nat} {r : Req} {s : State} (h : Fresh op r s) : commonCheck s op r = none := by
  obtain ⟨-, -, -, h1, h2, h3⟩ := h
  unfold commonCheck
  rw [if_neg (by simpa using h1), if_neg (by simpa using h2), if_neg (by simpa [or_iff_not_imp_left] using h3)]

theorem serve_now {op : Nat} {f : State → Req → Answer} {r : Req} {s : State} {st : Nat} {pl : List Byte} {eff : Prog}
    (h : Fresh op r s) (hf : f s r = .now st pl eff) :
    (serve op f r).run s = (complete r op st pl).run (eff.run (s.touched r)) := by
  simp only [serve, run_look, h.1, run_when_true, run_seq, h.2.2.1, answer, h.2.1, List.isEmpty_nil, Bool.not_true,
    Bool.false_eq_true, if_false, commonCheck_fresh h, hf, giveAnswer, State.touched]

theorem serve_later {op : Nat} {f : State → Req → Answer} {r : Req} {s : State} {eff : Prog}
    (h : Fresh op r s) (hf : f s r = .later eff) : (serve op f r).run s = eff.run (s.touched r) := by
  simp only [serve, run_look, h.1, run_when_true, run_seq, h.2.2.1, answer, h.2.1, List.isEmpty_nil, Bool.not_true,
    Bool.false_eq_true, if_false, commonCheck_fresh h, hf, giveAnswer, State.touched]

/-- A refused request answers its status and does nothing else. -/
theorem serve_refused {op : Nat} {f : State → Req → Answer} {r : Req} {s : State} {st : Nat}
    (h1 : s.answers = true) (hp : s.hp.parked = []) (h2 : ((s.hp.window r.path).find? fun e => e.tag == r.tag) = none)
    (h3 : commonCheck s op r = some st) :
    (serve op f r).run s = (complete r op st (checkPayload op st)).run (s.touched r) := by
  simp only [serve, run_look, h1, run_when_true, run_seq, h2, answer, hp, List.isEmpty_nil, Bool.not_true, Bool.false_eq_true, if_false, h3,
    State.touched]

/-- A request that a parked one precedes waits too (R32). -/
theorem serve_parked {op : Nat} {f : State → Req → Answer} {r : Req} {s : State}
    (h1 : s.answers = true) (hp : s.hp.parked ≠ []) (h2 : ((s.hp.window r.path).find? fun e => e.tag == r.tag) = none) :
    (serve op f r).run s = (park op r).run (s.touched r) := by
  have : s.hp.parked.isEmpty = false := by simpa using hp
  simp only [serve, run_look, h1, run_when_true, run_seq, h2, answer, this, Bool.not_false, if_true, State.touched]

/-- A TAG whose request has completed gets its reply again, and nothing else happens. -/
theorem serve_replayed {op : Nat} {f : State → Req → Answer} {r : Req} {s : State} {e : TagEntry} {bytes : List Byte}
    (h1 : s.answers = true) (h2 : ((s.hp.window r.path).find? fun e => e.tag == r.tag) = some e) (h3 : e.reply = some bytes) :
    (serve op f r).run s = (sendReply op r (replayOf bytes)).run ((addSat Reg.hpCnt5 31 16 1).run (s.touched r)) := by
  obtain ⟨tag, reply⟩ := e
  subst h3
  simp only [serve, run_look, h1, run_when_true, run_seq, h2, State.touched]

/-- A TAG whose request still runs is counted, and nothing else happens. -/
theorem serve_duplicate {op : Nat} {f : State → Req → Answer} {r : Req} {s : State} {e : TagEntry}
    (h1 : s.answers = true) (h2 : ((s.hp.window r.path).find? fun e => e.tag == r.tag) = some e) (h3 : e.reply = none) :
    (serve op f r).run s = (addSat Reg.hpCnt5 15 0 1).run (s.touched r) := by
  obtain ⟨tag, reply⟩ := e
  subst h3
  simp only [serve, run_look, h1, run_when_true, run_seq, h2, State.touched]

/-- A node that answers nothing does nothing with a request. -/
theorem serve_silent {op : Nat} {f : State → Req → Answer} {r : Req} {s : State} (h : s.answers = false) : (serve op f r).run s = s := by
  simp only [serve, run_look, h, run_when_false]

theorem window_modWindow (p : Path) (f : List TagEntry → List TagEntry) (s : State) :
    ((modWindow p f).run s).hp.window p = f (s.hp.window p) := by cases p <;> rfl

theorem touched_mem (s : State) (r : Req) : ∃ e ∈ (s.touched r).hp.window r.path, e.tag = r.tag := by
  rw [State.touched, window_modWindow, touchTag]
  split
  · exact ⟨_, List.mem_append_right _ (List.mem_singleton_self _), by have := List.find?_some ‹_›; simpa using this⟩
  · exact ⟨⟨r.tag, none⟩, List.mem_append_right _ (List.mem_singleton_self _), rfl⟩

@[simp] theorem queueReply_run (bytes : List Byte) (dest : BitVec 6) (tag : Byte) (owns : Bool) (s : State) :
    ((queueReply bytes dest tag owns).run s).hp.queue = s.hp.queue ++ [⟨bytes, dest, tag, owns⟩] := rfl

theorem window_modHp (p : Path) (f : Hp → Hp) (s : State) (h : ∀ x, (f x).winHost = x.winHost ∧ (f x).winRow = x.winRow) :
    ((modHp f).run s).hp.window p = s.hp.window p := by
  cases p
  · exact (h s.units.hp).1
  · exact (h s.units.hp).2

/-- What a command leaves of the tag windows and of the node's address. -/
def sameWindows (s t : State) : Prop := (∀ p, t.hp.window p = s.hp.window p) ∧ t.link.addr = s.link.addr

theorem sameWindows.trans {s t u : State} (h : sameWindows s t) (k : sameWindows t u) : sameWindows s u :=
  ⟨fun p => (k.1 p).trans (h.1 p), k.2.trans h.2⟩

theorem sameWindows_of {s t : State} (h1 : t.units.hp.winHost = s.units.hp.winHost) (h2 : t.units.hp.winRow = s.units.hp.winRow)
    (h3 : t.units.link.addr = s.units.link.addr) : sameWindows s t :=
  ⟨fun p => by cases p <;> assumption, h3⟩

theorem modPort_addr (p : Port) (f : PortSt → PortSt) (s : State) : ((modPort p f).run s).units.link.addr = s.units.link.addr := by
  cases p <;> rfl

theorem modPort_same (p : Port) (f : PortSt → PortSt) (s : State) : sameWindows s ((modPort p f).run s) :=
  sameWindows_of rfl rfl (modPort_addr p f s)

theorem sendOset_same (p : Port) (typ : Nat) (d : List Byte) (s : State) : sameWindows s ((sendOset p typ d).run s) :=
  modPort_same p _ s

theorem releaseUnits_same (p : Port) (c : Bool) (n : Nat) (s : State) : sameWindows s ((releaseUnits p c n).run s) :=
  (modPort_same p _ s).trans (sendOset_same p _ _ _)

theorem releaseHeld_same (f : TxFrame) (s : State) : sameWindows s ((releaseHeld f).run s) := by
  unfold releaseHeld
  split
  · exact sameWindows_of rfl rfl rfl
  · exact releaseUnits_same _ _ _ s

theorem sendFrame_same (p : Port) (f : TxFrame) (s : State) : sameWindows s ((sendFrame p f).run s) := by
  simp only [sendFrame, run_look]
  split
  · exact releaseHeld_same f s
  · split
    · exact (modPort_same p _ s).trans (releaseHeld_same f _)
    · exact modPort_same p _ s

theorem port_modPort (p : Port) (f : PortSt → PortSt) (s : State) : ((modPort p f).run s).port p = f (s.port p) := by
  cases p <;> rfl

theorem insertFrame_mem (f : TxFrame) (l : List TxFrame) : f ∈ insertFrame f l := by
  induction l with
  | nil => exact List.mem_singleton_self _
  | cons g t ih =>
    unfold insertFrame
    split
    · exact List.mem_cons_self ..
    · exact List.mem_cons_of_mem _ ih

/-- A frame that a node sends of its own on a port whose link is up is started, and so in the replay buffer, or waits. -/
theorem sendOwn_mem (p : Port) (typ : BitVec 4) (dst : BitVec 6) (aux : BitVec 16) (win : Word) (pl : List Byte) (s : State)
    (h : (((sendOwn p typ dst aux win pl).run s).port p).up = true) :
    ∃ f ∈ (((sendOwn p typ dst aux win pl).run s).port p).replay ++ (((sendOwn p typ dst aux win pl).run s).port p).waiting,
      f.typ = typ ∧ f.dst = dst ∧ f.payload = pl := by
  revert h
  simp only [sendOwn, run_look, sendFrame]
  split
  · intro h
    simp only [releaseHeld, ownFrame, run_skip] at h
    simp_all
  split
  · intro
    refine ⟨{ ownFrame s typ dst aux win pl with seq := (s.port p).txSeq }, List.mem_append_left _ ?_, rfl, rfl, rfl⟩
    simp only [run_seq, releaseHeld, ownFrame, run_skip, port_modPort, PortSt.start, List.mem_append, List.mem_singleton]
    exact .inr trivial
  · intro
    refine ⟨ownFrame s typ dst aux win pl, List.mem_append_right _ ?_, rfl, rfl, rfl⟩
    simp only [port_modPort]
    exact insertFrame_mem _ _

theorem setFlag_same (f : Flag) (s : State) : sameWindows s ((setFlag f).run s) := sameWindows_of rfl rfl rfl

theorem broadcastStatus_same (tag : Byte) (a : Nat) (st : Byte) (s : State) : sameWindows s ((broadcastStatus tag a st).run s) := by
  simp only [broadcastStatus, run_seq, run_look]
  split
  · exact sameWindows_of rfl rfl rfl
  · rw [run_when]
    split
    · simp only [closeBroadcast, run_seq, setFlagIf, run_when]
      split <;> exact sameWindows_of rfl rfl rfl
    · exact sameWindows_of rfl rfl rfl

theorem sendReply_same (op : Nat) (r : Req) (bytes : List Byte) (s : State) : sameWindows s ((sendReply op r bytes).run s) := by
  simp only [sendReply, run_look]
  split
  · exact sendFrame_same _ _ _
  · split
    · exact broadcastStatus_same _ _ _ _
    · exact sameWindows_of rfl rfl rfl

/-- Completing a request whose TAG stands in its window leaves it answered. -/
theorem complete_answered (op : Nat) (r : Req) (st : Nat) (pl : List Byte) (s : State)
    (h : ∃ e ∈ s.hp.window r.path, e.tag = r.tag) : Answered op r ((complete r op st pl).run s) st pl := by
  simp only [complete, run_look, run_seq]
  generalize hb : replyPacket s.link.addr.toNat op r.tag st pl = bytes
  generalize hu : (modWindow r.path (rememberReply r.tag bytes)).run s = u
  have hw : u.hp.window r.path = rememberReply r.tag bytes (s.hp.window r.path) := by rw [← hu, window_modWindow]
  have ha : u.link.addr = s.link.addr := by rw [← hu]; cases r.path <;> rfl
  have hs := sendReply_same op r bytes u
  have hr : replyTo ((sendReply op r bytes).run u) op r st pl = bytes := by rw [replyTo, hs.2, ha, hb]
  refine ⟨?_, fun hp hbc => ?_, fun hp hup => ?_⟩
  · obtain ⟨e, he, ht⟩ := h
    refine ⟨{ e with reply := some bytes }, ?_, ht, by rw [hr]⟩
    rw [hs.1, hw]
    exact List.mem_map.mpr ⟨e, he, by simp [ht]⟩
  · rw [hr]
    simp only [sendReply, run_look, hp, hbc, Bool.false_and]
    exact ⟨_, List.getLast?_concat .., rfl, rfl⟩
  · rw [hr]
    simp only [sendReply, run_look, hp] at hup ⊢
    exact sendOwn_mem .up 1 1 0 0 _ u hup

/-- What sending on the ports leaves alone: every unit but the host port and the Row Link, the memory, and all registers but
some. -/
def Quiet (l : List Nat) (s t : State) : Prop := onlyPorts s t ∧ regsBut l s t ∧ t.mem = s.mem ∧ t.now = s.now

theorem Quiet.refl (l : List Nat) (s : State) : Quiet l s s := ⟨rfl, fun _ _ => rfl, rfl, rfl⟩

theorem Quiet.trans {l m : List Nat} {s t u : State} (h : Quiet l s t) (k : Quiet m t u) : Quiet (l ++ m) s u := by
  refine ⟨?_, fun a ha => ?_, k.2.2.1.trans h.2.2.1, k.2.2.2.trans h.2.2.2⟩
  · have h1 := h.1
    have k1 := k.1
    unfold onlyPorts at *
    rw [k1, h1]
  · rw [List.mem_append, not_or] at ha
    exact (k.2.1 a ha.2).trans (h.2.1 a ha.1)

theorem Quiet.mono {l m : List Nat} {s t : State} (h : Quiet l s t) (hm : ∀ a ∈ l, a ∈ m) : Quiet m s t :=
  ⟨h.1, fun a ha => h.2.1 a fun hl => ha (hm a hl), h.2.2⟩

theorem Quiet.mem {l : List Nat} {s t : State} (h : Quiet l s t) : sameMem s t := fun a => by
  unfold State.rd8
  rw [h.2.2.1, h.2.2.2]

theorem Quiet.join {s t u : State} {l : List Nat} (h : Quiet [] s t) (k : Quiet l t u) : Quiet l s u :=
  (h.trans k).mono fun _ ha => ha

theorem quiet_modHp (f : Hp → Hp) (s : State) : Quiet [] s ((modHp f).run s) := ⟨rfl, fun _ _ => rfl, rfl, rfl⟩

theorem quiet_modLink (f : Link → Link) (s : State) : Quiet [] s ((modLink f).run s) := ⟨rfl, fun _ _ => rfl, rfl, rfl⟩

theorem quiet_modPort (p : Port) (f : PortSt → PortSt) (s : State) : Quiet [] s ((modPort p f).run s) := quiet_modLink _ s

theorem quiet_window (p : Path) (f : List TagEntry → List TagEntry) (s : State) : Quiet [] s ((modWindow p f).run s) := quiet_modHp _ s

theorem quiet_touched (s : State) (r : Req) : Quiet [] s (s.touched r) := quiet_window _ _ s

theorem quiet_reg (a : Nat) (v : Word) (s : State) : Quiet [a] s ((Prog.reg a v).run s) :=
  ⟨rfl, fun b hb => AMap.get_put_ne (by simpa using hb), rfl, rfl⟩

theorem quiet_setFld (a hi lo v : Nat) (s : State) : Quiet [a] s ((setFld a hi lo v).run s) := quiet_reg _ _ _

theorem quiet_addSat (a hi lo n : Nat) (s : State) : Quiet [a] s ((addSat a hi lo n).run s) :=
  ⟨rfl, fun b hb => AMap.get_put_ne (by simpa using hb), rfl, rfl⟩

theorem quiet_setFlag (f : Flag) (s : State) : Quiet [f.site.1, f.site.2.2.1] s ((setFlag f).run s) :=
  ⟨rfl, (quiet_setFld _ _ _ _ s |>.trans (quiet_addSat f.site.2.2.1 (f.site.2.2.2 + 15) f.site.2.2.2 1 _)).2.1, rfl, rfl⟩

theorem quiet_when {l : List Nat} {b : Bool} {p : Prog} {s : State} (h : Quiet l s (p.run s)) : Quiet l s ((Prog.when b p).run s) := by
  cases b
  · exact Quiet.refl l s
  · exact h

theorem quiet_sendOset (p : Port) (typ : Nat) (d : List Byte) (s : State) : Quiet [] s ((sendOset p typ d).run s) := quiet_modPort _ _ _

theorem quiet_sendCredit (p : Port) (c : Bool) (s : State) : Quiet [] s ((sendCredit p c).run s) := quiet_sendOset _ _ _ _

theorem quiet_releaseUnits (p : Port) (c : Bool) (n : Nat) (s : State) : Quiet [] s ((releaseUnits p c n).run s) := by
  rw [releaseUnits, run_seq]
  generalize h : (modPort p _).run s = u
  exact (h ▸ quiet_modPort p _ s).join (quiet_sendCredit p c u)

theorem quiet_releaseHeld (f : TxFrame) (s : State) : Quiet [] s ((releaseHeld f).run s) := by
  unfold releaseHeld
  split
  · exact Quiet.refl _ _
  · exact quiet_releaseUnits _ _ _ _

theorem quiet_sendFrame (p : Port) (f : TxFrame) (s : State) : Quiet [] s ((sendFrame p f).run s) := by
  simp only [sendFrame, run_look]
  split
  · exact quiet_releaseHeld _ _
  · split
    · rw [run_seq]
      exact (quiet_modPort p (fun q => q.start f) s).join (quiet_releaseHeld _ _)
    · exact quiet_modPort p _ s

theorem quiet_sendOwn (p : Port) (typ : BitVec 4) (dst : BitVec 6) (aux : BitVec 16) (win : Word) (pl : List Byte) (s : State) :
    Quiet [] s ((sendOwn p typ dst aux win pl).run s) := quiet_sendFrame _ _ _

theorem quiet_queueReply (bytes : List Byte) (dest : BitVec 6) (tag : Byte) (owns : Bool) (s : State) :
    Quiet [] s ((queueReply bytes dest tag owns).run s) := quiet_modHp _ s

theorem quiet_broadcastStatus (tag : Byte) (a : Nat) (st : Byte) (s : State) :
    Quiet [Reg.hpIrqStat, Reg.hpCnt3] s ((broadcastStatus tag a st).run s) := by
  simp only [broadcastStatus, run_seq, run_look]
  generalize h : (modHp _).run s = u
  have hu : Quiet [] s u := h ▸ quiet_modHp _ s
  split
  · exact hu.mono (by simp)
  · exact hu.join (quiet_when ((quiet_queueReply _ _ _ _ _).join (quiet_when (quiet_setFlag _ _))))

theorem quiet_sendReply (op : Nat) (r : Req) (bytes : List Byte) (s : State) :
    Quiet (replyRegs r) s ((sendReply op r bytes).run s) := by
  simp only [sendReply, run_look]
  split
  · exact (quiet_sendFrame _ _ _).mono (by simp)
  · split
    · rename_i h
      simp only [Bool.and_eq_true] at h
      rw [replyRegs, if_pos h.1]
      exact quiet_broadcastStatus _ _ _ _
    · exact (quiet_queueReply _ _ _ _ _).mono (by simp)

theorem quiet_complete (op : Nat) (r : Req) (st : Nat) (pl : List Byte) (s : State) :
    Quiet (replyRegs r) s ((complete r op st pl).run s) := (quiet_window _ _ s).join (quiet_sendReply _ _ _ _)

/-- A fresh request that is answered now: its effect runs, then it completes. -/
theorem serve_answers {op : Nat} {f : State → Req → Answer} {r : Req} {s : State} {st : Nat} {pl : List Byte} {eff : Prog}
    (h : Fresh op r s) (hf : f s r = .now st pl eff) (hw : sameWindows (s.touched r) (eff.run (s.touched r))) :
    ∃ t, Prog.next (serve op f r) s = .next t ∧ Answered op r t st pl ∧ Quiet (replyRegs r) (eff.run (s.touched r)) t := by
  refine ⟨_, rfl, ?_, ?_⟩
  · rw [serve_now h hf]
    refine complete_answered op r st pl _ ?_
    obtain ⟨e, he, ht⟩ := touched_mem s r
    exact ⟨e, by rw [hw.1]; exact he, ht⟩
  · rw [serve_now h hf]
    exact quiet_complete _ _ _ _ _

/-- A fresh request that is answered with a status and does nothing else. -/
theorem serve_just {op : Nat} {f : State → Req → Answer} {r : Req} {s : State} {st : Nat} {pl : List Byte}
    (h : Fresh op r s) (hf : f s r = .now st pl .skip) :
    ∃ t, Prog.next (serve op f r) s = .next t ∧ Answered op r t st pl ∧ Quiet (replyRegs r) s t := by
  obtain ⟨t, h1, h2, h3⟩ := serve_answers h hf ⟨fun _ => rfl, rfl⟩
  exact ⟨t, h1, h2, (quiet_touched s r).join h3⟩

/-- A request whose opcode no broadcast may carry changes no register by being answered. -/
theorem replyRegs_nil {op : Nat} {r : Req} {s : State} (h : Fresh op r s) (hn : op ∉ broadcastOps) : replyRegs r = [] := by
  unfold replyRegs
  split
  · exact absurd (h.2.2.2.2.1 ‹_›) hn
  · rfl

end Sys2Proof.Machine
end

