-- ==== Sys2Proof/Tests/Slice0.lean ====
section
/-! SUPPORT. Tests of the model: an ill-formed command for each check of well-formedness, one small step for each kind of
command with its result worked out from the spec, and for each statement a state and operands that meet its hypotheses. -/

set_option Elab.async false

namespace Sys2Proof.Tests

open Sys2Proof.Machine

/-- A node after some changes. -/
def after (s : State) (l : List Prog) : State := (Prog.all l).run s

/-- Whether a command answers a next state that has a property. -/
def answers (c : Instr) (s : State) (p : State → Bool) : Bool :=
  match exec c s with
  | .next t => p t
  | .fault _ | .refused _ => false

/-- A request of the host port with TAG 7. -/
def ask (payload : List Byte) : Req := { path := .host, bcast := false, tag := 7, payload := payload }

/-- A node whose keeper set is up, in KEEP. -/
def node : State := after State.reset [modPwr fun p => { p with phase := .keeper }]

/-- A row head with a member behind it, ticking. -/
def head : State := after node [
  modPwr fun p => { p with straps := { p.straps with headN := false } },
  modLink fun l => { l with addr := 1, rowLen := 2, rowUp := true, dnPort := { l.dnPort with up := true } },
  modTick fun t => { t with num := 5, edgeAt := some 0, edges := true, running := true, metered := true }]

/-- A member with address 2, ticking. -/
def member : State := after node [
  modLink fun l => { l with addr := 2, rowUp := true, upPort := { l.upPort with up := true },
                            dnPort := { l.dnPort with up := true } },
  modTick fun t => { t with num := 5, edgeAt := some 0, edges := true, running := true, metered := true }]

/-- An image with one entry for each of the five engines. -/
def image : Image :=
  { addr := 0x10000000, size := 4096, ng := 1, pMin := 100, minCores := 4, gradeOff := 0, gradeLen := 0, mapOff := 64, mapLen := 48,
    slots := (List.range 5).map fun n => { eng := if n < 2 then n else n + 1, start := n, reserve := 100, list := 0x10000100 + 256 * n, len := 40 } }

/-- A running entry of an engine's list. -/
def run (n : Nat) : Run :=
  { entry := n, list := 0x10000100 + 256 * n, len := 40, pos := 0, both := false, block := .none, ended := false, waited := false }

/-- A node in RUN whose schedule runs, with a running entry on every engine. -/
def busy (s : State) : State := after s [
  modPwr fun p => { p with level := .run, bistDone := true, coreOk := BitVec.allOnes 64, memDieOk := true, imagerOk := true },
  modEng fun _ => { me0 := some (run 0), me1 := some (run 1), ve := some (run 2), xe := some (run 3), pe := some (run 4), image := some image },
  modTick fun t => { t with sched := true, entries := List.replicate 5 .started }]

/-- The words of a command at the head of an engine's list. -/
def listing (n : Nat) (ws : List Word) : Prog := .mem (0x10000100 + 256 * n) (ws.flatMap wordBytes)

/-- A header word: OPC and NW (Table 8-2). -/
def header (opc nw : Nat) : Word := BitVec.ofNat 32 (opc * 16777216 + nw * 262144)

/-- A received frame. -/
def frame (dst src seq : Nat) (payload : List Byte) : RxFrame :=
  { dst := BitVec.ofNat 6 dst, src := BitVec.ofNat 6 src, seq := BitVec.ofNat 8 seq, aux := 0, win := 0, payload := payload }

/-! ### Well-formedness refuses -/

theorem test_wf_long_payload : (Instr.ping (ask (List.replicate 4097 0))).wf = false := by decide +kernel
theorem test_wf_long_transaction : (Instr.hpWriteRequest (List.replicate 65537 0)).wf = false := by decide +kernel
theorem test_wf_rto_zero : (Instr.rtoExpiry 0 1).wf = false := by decide
theorem test_wf_register_address : (Instr.registerWrite 0x08010002 0).wf = false := by decide
theorem test_wf_calibration_samples : (Instr.adcCalStepComplete .a [⟨0, 0⟩] false).wf = false := by decide
theorem test_wf_slot_entry : (Instr.slotStart 512).wf = false ∧ (Instr.reservationEnd 512).wf = false := by decide
theorem test_wf_sensors : (Instr.thermalSample [1]).wf = false ∧ (Instr.thermHoldSample []).wf = false := by decide
theorem test_wf_unit : (Instr.tileComplete 72).wf = false ∧ (Instr.stall 72 0).wf = false := by decide
theorem test_wf_train_address : (Instr.train .up ⟨false, 0⟩ 33 1).wf = false := by decide
theorem test_wf_halt_source : (Instr.haltSet .up 33 false 0 0).wf = false := by decide
theorem test_wf_frames : ((Instr.pkt .up (frame 1 2 0 [1])).wf || (Instr.tokA .up (frame 1 2 0 [])).wf ||
    (Instr.tokB .up (frame 1 2 0 [0, 0])).wf || (Instr.enumOffer .up (frame 0 1 0 [])).wf ||
    (Instr.enumReply .dn (frame 1 2 0 [])).wf || (Instr.endReply .dn (frame 1 2 0 [])).wf ||
    (Instr.overflowReply .dn (frame 1 2 0 [])).wf || (Instr.event .dn (frame 1 2 0 [])).wf) = false := by decide
theorem test_wf_imager_row : (Instr.imagerRow 768 [] 0).wf = false := by decide
theorem test_wf_command_byte : (Instr.unknownCommandByte ⟨0, List.replicate 65537 0, 0⟩).wf = false := by decide +kernel
theorem test_wf_ordered_set : (Instr.unknownOrderedSet .up 0x30).wf = false := by decide
theorem test_wf_accepts : (Instr.ping (ask [1])).wf = true ∧ (Instr.slotStart 511).wf = true := by decide

/-! ### Single steps -/

/-- The reply's STATUS and payload stand last in the reply queue. -/
def replies (status : Nat) (payload : List Byte) (t : State) : Bool :=
  (t.hp.queue.getLast?.map fun q => q.bytes) == some (replyPacket t.link.addr.toNat (field ((t.hp.queue.getLast?.map fun q => q.bytes).getD []) 2 1) 7 status payload)

/-- CRC-16/CCITT-FALSE and CRC-32 of the nine digits, as their standards give them (R141, R210). -/
theorem test_crcs : crc16 [49, 50, 51, 52, 53, 54, 55, 56, 57] = 0x29B1 ∧ crc32 [49, 50, 51, 52, 53, 54, 55, 56, 57] = 0xCBF43926 := by
  decide +kernel
/-- Table 5-4: PING returns its payload. -/
theorem test_ping : answers (.ping (ask [1, 2])) node (replies 0 [1, 2]) = true := by decide +kernel
/-- Table 20-3: TICK_PERIOD reads 33,333 after reset. -/
theorem test_reg_rd : answers (.regRd (ask (leBytes 4 0x08010004))) node (replies 0 (leBytes 4 33333)) = true := by decide +kernel
/-- R213: an address that is not aligned. -/
theorem test_reg_rd_unaligned : answers (.regRd (ask (leBytes 4 0x08010002))) node (replies 5 []) = true := by decide +kernel
/-- R237: a staged field of a register write waits in the bank. -/
theorem test_reg_wr_stages : answers (.regWr (ask (leBytes 4 0x08010004 ++ leBytes 4 20000))) node
    (fun t => replies 0 [] t && t.stored 0x08010004 == 33333 && t.prospective 0x08010004 == 20000) = true := by decide +kernel
/-- R215: MEM_WR to MRAM is denied. -/
theorem test_mem_wr_mram : answers (.memWr (ask (leBytes 4 0x04000000 ++ [1]))) node (replies 9 []) = true := by decide +kernel
theorem test_mem_wr : answers (.memWr (ask (leBytes 4 0x100 ++ [1, 2]))) (busy node)
    (fun t => replies 0 [] t && t.rd16 0x100 == 0x201) = true := by decide +kernel
/-- R242: nothing is staged. -/
theorem test_check_empty : answers (.check (ask [])) node (replies 6 []) = true := by decide +kernel
/-- R745: with no tick running the commit is live at once. -/
theorem test_commit_now : answers (.commit (ask [])) (after node [modStg fun g => { g with bank := [(0x08010004, 20000)] }])
    (fun t => t.stored 0x08010004 == 20000 && t.stg.bank == []) = true := by decide +kernel
/-- R247: COMMIT_AT freezes the bank for its edge. -/
theorem test_commit_at : answers (.commitAt (ask (leBytes 4 9))) (after member [modStg fun g => { g with bank := [(0x08010004, 20000)] }])
    (fun t => (t.stg.pend.map fun p => (p.tick, p.byAt)) == some (9, true)) = true := by decide +kernel
/-- R292: a grade without an image. -/
theorem test_select_grade : answers (.selectGrade (ask [0, 0, 0, 0])) node (replies 9 []) = true := by decide +kernel
/-- R119: a lower level is taken at once while no tick runs. -/
theorem test_set_level : answers (.setLevel (ask [0, 0, 0, 0])) (after node [modPwr fun p => { p with level := .watch }])
    (fun t => t.pwr.level == .keep) = true := by decide +kernel
/-- R692: INDEX 0 clears the log. -/
theorem test_fault_clr : answers (.faultClr (ask [0, 0, 0, 0]))
    (after node [modFlt fun f => { f with log := [⟨0x0101, 1, false, false, false, 1, 5, 0, 1, 0⟩] }]) (fun t => t.flt.log == []) = true := by
  decide +kernel
/-- Table 18-2: a record's sixteen bytes sum to 0. -/
theorem test_record_sum : ((recordBytes ⟨0x0101, 1, false, false, false, 1, 5, 0, 1, 0⟩ 1).map BitVec.toNat).sum % 256 = 0 := by decide +kernel
/-- R104: the delay's end resets the node; SW_RESET is bit 5 of the cause. -/
theorem test_reset_node : answers .resetNodeDelayExpiry (after node [modPwr fun p => { p with resetAsked := true }])
    (fun t => t.stored 0x080F0004 == 0x20 && t.pwr.phase == .rom) = true := by decide +kernel
/-- R84: TICK_IN is lost: flywheel, TICK_LOST and record 0x0102. -/
theorem test_tick_lost : answers .tickLost (after head [.reg Reg.tickCtrl 5, modTick fun t => { t with accepted := 2 }])
    (fun t => t.tick.flywheel && t.flag Reg.tickStat 1 && (t.flt.conds.map fun c => c.code) == [0x0102]) = true := by decide +kernel
/-- R69: the edge that the head announced carries its number. -/
theorem test_tick_edge : answers (.tickEdge ⟨0, 0, 0, 0⟩) (after member [modTick fun t => { t with announced := some 6 }])
    (fun t => t.tick.num == 6 && !t.tick.flywheel) = true := by decide +kernel
/-- R87: without a TICK set the member's own edge counts and raises 0x0104. -/
theorem test_tick_edge_missed : answers (.tickEdge ⟨0, 0, 0, 0⟩) member
    (fun t => t.tick.num == 6 && t.tick.flyCount == 1 && (t.flt.conds.map fun c => c.code) == [0x0104, 0x0201]) = true := by decide +kernel
/-- R275: 500 nJ are two units of 0.25 µJ. -/
theorem test_meters : answers (.tickEdge ⟨500, 249, 0, 0⟩) member
    (fun t => t.stored Reg.enLastCore == 2 && t.stored Reg.enLastMem == 0 && t.en.resMem == 249) = true := by decide +kernel
/-- R60: an entry whose engine is busy waits with SLOT_LATE. -/
theorem test_slot_late : answers (.slotStart 0) (after (busy member) [modTick fun t => { t with entries := [.notDue] }])
    (fun t => t.entry 0 == .waiting && t.flag Reg.tickStat 3) = true := by decide +kernel
/-- R331: SIGNAL saturates the fence counter. -/
theorem test_signal : answers (.signal .ve) (after (busy member) [listing 2 [header 3 2, 0xFFFF0001], .reg (Reg.engFc0 + 4) 9])
    (fun t => t.fence 1 == 65535) = true := by decide +kernel
/-- R333: SYNC on a value that is not reached blocks the list. -/
theorem test_sync : answers (.sync .ve) (after (busy member) [listing 2 [header 2 3, 0x00010001, 0]])
    (fun t => (t.eng.ve.map fun r => r.block) == some (.sync 1 1 0)) = true := by decide +kernel
/-- R337: SHAPE_SET stamps the tick. -/
theorem test_shape_set : answers (.shapeSet .ve) (after (busy member) [listing 2 [header 5 3, 0x200, 17]])
    (fun t => t.rd32 0x200 == 0x00050011) = true := by decide +kernel
/-- R152: a gap is NAKed and nothing else changes. -/
theorem test_frame_gap : answers (.event .up (frame 2 1 3 (List.replicate 12 0))) member (fun t => t.link.upPort.rxExp == 0) = true := by
  decide +kernel
/-- R154: an ACK frees its frame and the earlier ones. -/
theorem test_ack : answers (.ack .up 1)
    (after member [modPort .up fun q => { q with txSeq := 3, replay := (List.range 3).map fun n => ⟨9, 1, 2, BitVec.ofNat 8 n, 0, 0, [], 0, none⟩ }])
    (fun t => (t.link.upPort.replay.map fun f => f.seq) == [2]) = true := by decide +kernel
/-- R176: a member takes the offered address and offers the next one with 80 ns more. -/
theorem test_enum_offer : answers (.enumOffer .up (frame 0 1 0 ([0, 3, 0, 0] ++ leBytes 2 100 ++ List.replicate 10 0))) member
    (fun t => t.link.addr == 3 && t.fld Reg.tickHopDly 15 0 == 100 &&
      ((t.link.dnPort.replay.map fun f => (field f.payload 1 1, field f.payload 4 2)) == [(4, 180)])) = true := by decide +kernel
/-- R635: a trip with HALT latches and drives HALT_N. -/
theorem test_cmp_trips : answers (.cmpFilterExpiry 0)
    (after node [.reg Reg.cmp0Ctrl 0xA0000000, .reg Reg.pmAinMode 0xFFFF, modRfx fun x => { x with raw := 1 }])
    (fun t => t.rfx.latch == 1 && t.drivesHalt) = true := by decide +kernel
/-- R588, Table 15-1: 0 V and VREF convert to the ends of the range, and VREF / 2 to 2048. -/
theorem test_ideal_code : idealCode 1500000000 0 = 0 ∧ idealCode 1500000000 1500000000 = 4095 ∧ idealCode 1500000000 750000000 = 2048 := by
  decide +kernel
/-- 8b/10b (R128): D0.0 and K28.5 at both disparities, and D21.5, which is alternating bits at either. -/
theorem test_symbols : encodeSymbol false .idle = 0b1001110100 ∧ encodeSymbol true .idle = 0b0110001011 ∧
    encodeSymbol false .com = 0b0011111010 ∧ encodeSymbol true .com = 0b1100000101 ∧
    encodeSymbol false ⟨false, 0xB5⟩ = 0b1010101010 ∧ encodeSymbol true ⟨false, 0xB5⟩ = 0b1010101010 := by decide +kernel
/-- CRC-8 with polynomial 0x07 of the nine digits, as its standard gives it (R132). -/
theorem test_crc8 : crc8 [49, 50, 51, 52, 53, 54, 55, 56, 57] = 0xF4 := by decide +kernel
/-- The codes of what a port sends. -/
def lanesOf (l : List WireItem) : Lanes := PortSt.lanes { PortSt.reset with sent := l }
/-- The symbols in which another port hears them. -/
def heardOf (l : List WireItem) : Heard := PortSt.reset.hear (lanesOf l)
/-- A frame of 16 header and CRC bytes and twelve more, as sent. -/
def sentFrame : TxFrame := ⟨9, 3, 1, 0, 0, 0, List.replicate 12 7, 0, none⟩
/-- R129, R132, R133, R140 to R142: a set and a frame reach the other end as they were sent. -/
theorem test_lanes : receivedSet (heardOf [.set ⟨0x30, [1, 0, 0, 0, 0]⟩]) = some ⟨0x30, [1, 0, 0, 0, 0]⟩ ∧
    judgeFrame (heardOf [.frame sentFrame]) = .good 9 ⟨3, 1, 0, 0, 0, List.replicate 12 7⟩ := by decide +kernel
/-- R133: lane 1 serves when lane 0 fails; R131: a code that no symbol has is a symbol error. -/
theorem test_lane_one : receivedSet (PortSt.reset.hear { lanesOf [.set ⟨0x31, [1, 2, 0, 0, 0]⟩] with lane0 := [0] }) = some ⟨0x31, [1, 2, 0, 0, 0]⟩ ∧
    symbolErrors (PortSt.reset.hear ⟨[0], []⟩) = 1 := by decide +kernel
/-- Table 9-1: TYPE, TILES, PRIO and SRC of a queued vector command's word 0, and its EXTENT. -/
theorem test_desc_words : ((Dsp.reset.descWords (mkDesc .ve (run 2) [header 0x32 15] 9 1 64)).take 4) =
    [0x5A390001, 0x00000000, 0x10000300, 0x00020040] := by decide +kernel
/-- R599: a trigger while a sequence runs is dropped. -/
theorem test_reg_drop : answers (.swRegularTrigger .a)
    (after node [.reg Reg.adcARegCtrl 0x88000000, modPwr fun p => { p with level := .watch },
      modAdc fun a => { a with a := { a.a with reg := some ⟨0, false, false, 0, none⟩ } }])
    (fun t => t.flag Reg.adcFlags 2) = true := by decide +kernel
/-- R406: 2.5 rounds to 3, -2.5 to -3, and 200 clamps to 127 in I8 (R407). -/
theorem test_narrow : narrow Fmt.i8 (.fin false 5 (-1)) = ⟨3, false, false⟩ ∧ narrow Fmt.i8 (.fin true 5 (-1)) = ⟨253, false, false⟩ ∧
    narrow Fmt.i8 (.fin false 200 0) = ⟨127, true, false⟩ := by decide +kernel
/-- R592: the reference falls while REF_EN is 1. -/
theorem test_ref_loss : answers .refLoss (after node [.reg Reg.adcRef 1, modAdc fun a => { a with refReady := true }])
    (fun t => t.flag Reg.adcFlags 6 && !t.adc.refReady) = true := by decide +kernel

/-! ### States and operands that meet the hypotheses of the statements -/

/-- A node with a staged TICK_PERIOD that passes every check. -/
def staged : State := after node [modStg fun g => { g with bank := [(0x08010004, 20000)] }]
/-- A set that waits for an edge. -/
def frozen : Prog := modStg fun g => { g with pend := some { regs := [(0x08010004, 20000)], tick := 6, byAt := false } }
/-- A valid settings copy with one entry. -/
def copyWords : List Byte :=
  let body := leBytes 4 0x54534B53 ++ leBytes 4 1 ++ leBytes 4 1
  let entry := leBytes 4 0x08010004 ++ leBytes 4 20000
  body ++ wordBytes (crc32 (body ++ entry)) ++ entry
/-- A node with that copy. -/
def stored : State := after node [.mem Mram.copyA copyWords]

theorem witness_PingsAndMemoryReadsAnswer : Fresh 0x01 (ask [1]) node ∧ Fresh 0x02 (ask []) node ∧ Fresh 0x0C (ask []) node ∧
    Fresh 0x24 (ask []) node ∧ inOneRange 0x00FFFFFF 2 = false ∧ node.poweredAll 0 4 = false ∧ node.poweredAll 0x047FFFFF 1 = true ∧
    (busy node).powered 0x00FFFFFF = true := by
  dsimp only [Fresh]; and_intros <;> decide +kernel

theorem witness_RegisterReadsAnswer : Fresh 0x08 (ask (leBytes 4 0x080FFFFC)) node ∧ Fresh 0x0A (ask []) node ∧ node.safe := by
  dsimp only [Fresh, State.safe, memorySafe, registersSafe]; and_intros <;> decide +kernel

theorem witness_MemoryWritesStore : Fresh 0x0D (ask (leBytes 4 0x10000000 ++ [1])) (busy node) ∧ (busy node).safe ∧
    inOneRange 0x01FFFFFF 1 = true ∧ regionOf 0x04000000 = some .mram ∧ overlaps 0x10000FFF 1 image.addr image.size = true ∧
    overlaps 0x10001000 1 image.addr image.size = false := by
  dsimp only [Fresh, State.safe, memorySafe, registersSafe]; and_intros <;> decide +kernel

theorem witness_StageWriteFillsBank : Fresh 0x10 (ask (leBytes 4 0x08010004 ++ leBytes 4 0xFFFFF ++ leBytes 4 1)) node ∧
    stagedMask 0x08010004 = 0xFFFFF ∧ stagedMask 0x08010010 = 0 := by
  dsimp only [Fresh]; and_intros <;> decide +kernel

theorem witness_RegisterWriteActsByClass : Fresh 0x09 (ask (leBytes 4 0x080FFFFC ++ leBytes 4 1)) node ∧ node.safe ∧
    (∀ a ∈ [0x08000000, 0x080FFFFC, 0x08010004],
      a ∉ [Reg.tickCtrl, Reg.enCtrl, Reg.adcSwtrig, Reg.wmProg, Reg.fltCtrl, Reg.dspScratch, Reg.trBase, Reg.pmGpioOut,
        Reg.tdacCtrl]) := by
  dsimp only [Fresh, State.safe, memorySafe, registersSafe]; and_intros <;> decide +kernel

theorem witness_CheckAndDiscardAct : Fresh 0x11 (ask []) staged ∧ Fresh 0x13 (ask []) staged ∧ staged.safe ∧ staged.stg.bank ≠ [] ∧
    failMask staged = 0 := by
  dsimp only [Fresh, State.safe, memorySafe, registersSafe]; and_intros <;> decide +kernel

theorem witness_CommitsFreezeOrAct :
    let s := after member [modStg fun g => { g with bank := [(0x08010004, 20000)] }]
    let low := after node [modStg fun g => { g with bank := [(Reg.imgCtrl, 1), (0x08010004, 8333)] }]
    (Fresh 0x12 (ask []) s ∧ Fresh 0x16 (ask (leBytes 4 6)) s ∧ s.safe ∧ s.tick.running = true ∧ s.stg.pend = none ∧ failMask s = 0 ∧
      (6 - s.tick.num).toNat = 1) ∧
    Fresh 0x12 (ask []) staged ∧ staged.tick.running = false ∧ Fresh 0x12 (ask []) low ∧ failMask low ≠ 0 := by
  dsimp only [Fresh, State.safe, memorySafe, registersSafe]; and_intros <;> decide +kernel

theorem witness_CommitsFreezeOrAct_banks : banksOrdered staged := ⟨by decide +kernel, by intro p h; cases h⟩

theorem witness_StoreWritesOneCopy :
    let j : StoreJob := { req := ask [], toB := true, seq := 2, entries := [(0x08010004, 1)] }
    let s := after stored [modStg fun g => { g with job := some j }, modWindow .host (touchTag 7)]
    Fresh 0x14 (ask []) stored ∧ stored.safe ∧ stored.newestCopy = some Mram.copyA ∧
      s.safe ∧ s.stg.job = some j ∧ (∃ e ∈ s.hp.window .host, e.tag = 7) ∧ s.romOnly = false := by
  dsimp only [Fresh, State.safe, memorySafe, registersSafe]; and_intros <;> decide +kernel

theorem witness_RecallLoadsBank : Fresh 0x15 (ask []) stored ∧ stored.safe ∧ stored.newestCopy = some Mram.copyA ∧
    stored.copyEntries Mram.copyA = [(0x08010004, 20000)] ∧ node.newestCopy = none := by
  dsimp only [Fresh, State.safe, memorySafe, registersSafe]; and_intros <;> decide +kernel

theorem witness_LoadImageReplacesOrKeeps :
    let s := after node [modPwr fun p => { p with level := .run }]
    Fresh 0x18 (ask (leBytes 4 0 ++ leBytes 4 64)) s ∧ s.safe ∧ s.pwr.level = .run ∧ s.tick.sched = false ∧ s.link.lockBad = false ∧
      s.rd32 0 ≠ 0x4D494B53 ∧ loadFailure s 0 64 ≠ none ∧ node.pwr.level ≠ .run := by
  dsimp only [Fresh, State.safe, memorySafe, registersSafe]; and_intros <;> decide +kernel

theorem witness_StartAndStopRuleTheSchedule :
    let s := after (busy member) [modTick fun t => { t with sched := false }]
    let f := after s [.reg Reg.tickCtrl 2, modTick fun t => { t with running := false, edges := false }]
    Fresh 0x19 (ask (leBytes 4 9)) s ∧ s.pwr.level = .run ∧ s.eng.image ≠ none ∧ Fresh 0x19 (ask (leBytes 4 0)) f ∧ f.freeRun = true ∧
      f.tick.pass = false ∧ Fresh 0x1A (ask []) s ∧ node.eng.image = none := by
  dsimp only [Fresh]; and_intros <;> decide +kernel

theorem witness_GradesAndLevelsAreAsked :
    let held := after node [modEn fun e => { e with hold := true }]
    Fresh 0x1B (ask [0, 0, 0, 0]) node ∧ node.eng.image = none ∧ (busy node).eng.image = some image ∧ Fresh 0x1B (ask [3, 0, 0, 0]) (busy node) ∧
      Fresh 0x1C (ask [1, 0, 0, 0]) node ∧ node.pwr.pend = none ∧ node.allows .keep = true ∧ node.allows .watch = false ∧ Fresh 0x1C (ask [1, 0, 0, 0]) (busy node) ∧
      (busy node).allows .watch = true ∧ (busy node).pwr.pend = none ∧ held.en.hold = true ∧
      (busy member).tick.running = true ∧ levelCode .keep < levelCode (busy member).pwr.level := by
  dsimp only [Fresh]; and_intros <;> decide +kernel

theorem witness_LevelChangeTakesEffect :
    let s := after node [modPwr fun p => { p with pend := some .watch }]
    let t := after member [modPwr fun p => { p with pend := some .watch }]
    let w := after node [modPwr fun p => { p with level := .watch, pend := some .run }]
    node.pwr.pend = none ∧ s.pwr.pendReady = false ∧ s.tick.running = false ∧ s.tick.pass = false ∧ s.safe ∧ s.pwr.level = .keep ∧
      s.imagerPresent = true ∧ t.tick.running = true ∧ t.pwr.pend = some .watch ∧ t.pwr.pendReady = false ∧ w.safe ∧ w.pwr.level = .watch := by
  dsimp only [State.safe, memorySafe, registersSafe]; and_intros <;> decide +kernel

theorem witness_CalibrationStepsAreJudged :
    let p := [0, 0, 0, 0, 0, 0, 0, 0]
    let s := after node [modPwr fun p => { p with level := .watch }, .reg Reg.pmAinMode 0xFFFF]
    let r := after s [modAdc fun a => { a with refReady := true }]
    let j : CalJob := { req := ask p, full := true, ch := 0, target := 4095, lost := false }
    let k := after r [modAdc fun a => { a with a := { a.a with cal := some j, zero := some (0, 64) } }, modWindow .host (touchTag 7)]
    Fresh 0x20 (ask p) s ∧ s.convOk .a = true ∧ s.flag (regCtrl .a) 31 = false ∧ s.flag (injCtrl .a) 31 = false ∧ s.flag Reg.adcCross 31 = false ∧
      s.flag Reg.pmAinMode 0 = true ∧ s.adc.refReady = false ∧ r.adc.refReady = true ∧ k.safe ∧ (k.conv .a).cal = some j ∧
      k.hp.parked = [] ∧ Fresh 0x20 { ask p with tag := 8 } k ∧ j.req.bcast = false ∧ (∃ e ∈ k.hp.window .host, e.tag = 7) ∧
      (100 : Nat) ∈ ([100, 116].map fun n => (BitVec.ofNat 12 n).toNat) ∧ (116 : Nat) ∈ ([100, 116].map fun n => (BitVec.ofNat 12 n).toNat) := by
  dsimp only [Fresh, State.safe, memorySafe, registersSafe]; and_intros <;> decide +kernel

theorem witness_SnapshotAndResultReadsAnswer : Fresh 0x21 (ask [0, 0, 254, 3]) (busy node) ∧ (busy node).safe ∧
    Fresh 0x30 (ask []) (busy node) ∧ node.res.since = false ∧ node.pwr.level = .keep := by
  dsimp only [Fresh, State.safe, memorySafe, registersSafe]; and_intros <;> decide +kernel

theorem witness_ReflexLatchesAndReleases :
    let s := after node [.reg Reg.cmp0Ctrl 0xA0000000, .reg Reg.pmAinMode 0xFFFF, modRfx fun x => { x with raw := 1 }]
    let off := after node [.reg Reg.cmp0Ctrl 0xA4000000, .reg Reg.pmAinMode 0xFFFF, modRfx fun x => { x with filt := 1 }]
    let due := after node [.reg Reg.cmp0Ctrl 0xA4000000, modRfx fun x => { x with latch := 1 }]
    Fresh 0x22 (ask [15, 0, 0, 0]) s ∧ s.safe ∧ s.cmpRuns 0 = true ∧ s.rfx.raw.getLsbD 0 = true ∧ s.rfx.filt.getLsbD 0 = false ∧
      s.flag Reg.cmp0Ctrl 29 = true ∧ s.romOnly = false ∧ off.cmpRuns 0 = true ∧ off.rfx.raw.getLsbD 0 = false ∧ off.rfx.filt.getLsbD 0 = true ∧
      node.cmpRuns 3 = false ∧ due.flag Reg.cmp0Ctrl 26 = true ∧ due.rfx.filt.getLsbD 0 = false ∧ due.rfx.latch.getLsbD 0 = true := by
  dsimp only [Fresh, State.safe, memorySafe, registersSafe]; and_intros <;> decide +kernel

theorem witness_FaultsAreRecordedAndRead :
    let c : Cond := { code := 0x0101, sev := 2, src := 2, data := 0, tick := none }
    let x : FltRec := ⟨0x0101, 2, false, false, false, 2, 5, 0, 1, 0⟩
    let s := after member [modFlt fun f => { f with conds := [c] }]
    let m := after s [modFlt fun f => { f with log := [x] }]
    let b := after m [modFlt fun f => { f with copies := [x] }]
    Fresh 0x28 (ask [0, 0, 255, 0]) m ∧ Fresh 0x29 (ask [1, 0, 0, 0]) m ∧ s.safe ∧ s.flt.conds = [c] ∧ s.keeperUp = true ∧ s.flt.log = [] ∧
      m.flt.log.getLast? = some x ∧ x.code = c.code ∧ x.src = c.src ∧ x.tick = m.tick.num ∧ b.safe ∧ b.stg.job = none ∧ b.flt.copies = [x] ∧
      b.flt.bbNext < 4096 ∧ node.flt.conds = [] := by
  dsimp only [Fresh, State.safe, memorySafe, registersSafe]; and_intros <;> decide +kernel

theorem witness_ResetsReset :
    let a := after node [modPwr fun p => { p with resetAsked := true }]
    let f := after node [modPwr fun p => { p with phase := .firmware }]
    Fresh 0x3E (ask []) node ∧ a.safe ∧ a.pwr.resetAsked = true ∧ node.pwr.resetAsked = false ∧ node.safe ∧ node.pwr.phase = .keeper ∧
      f.safe ∧ f.pwr.phase = .firmware ∧ State.reset.pwr.phase ≠ .firmware ∧ State.reset.pwr.phase ≠ .keeper := by
  dsimp only [Fresh, State.safe, memorySafe, registersSafe]; and_intros <;> decide +kernel

theorem witness_BootRomStartsAndArms :
    let r := after State.reset [modPwr fun p => { p with phase := .inReset, resetLow := true }]
    let c := after State.reset [.mem Mram.copyA copyWords]
    let v := after State.reset [modPwr fun p => { p with phase := .inReset, vddPixLow := true }]
    r.pwr.phase = .inReset ∧ r.pwr.resetLow = true ∧ node.pwr.phase ≠ .inReset ∧ node.pwr.phase ≠ .rom ∧ State.reset.safe ∧
      State.reset.pwr.phase = .rom ∧ State.reset.newestCopy = none ∧ c.safe ∧ c.newestCopy = some Mram.copyA ∧
      v.fuse.isV64 = true ∧ v.pwr.vddPixLow = true ∧ r.pwr.vddPixLow = false := by
  dsimp only [State.safe, memorySafe, registersSafe]; and_intros <;> decide +kernel

theorem witness_ImagerDeliversFrames :
    let begun := fun s : State => after s [modEng fun x => { x with pe := some { run 4 with block := .busy (s.command (run 4)) } }]
    let p := after (busy member) [listing 4 [header 0x40 7, 0x00000000, 0, 0x1000, 0, 0, 0]]
    let w := after (begun p) [.reg Reg.imgCtrl 1, modImg fun i => { i with on := true, ready := true, taken := true, exposed := true }]
    let m := begun (after (busy member) [listing 4 [header 0x40 7, 0x120C0000, 0, 0x1000, 0x00200000, 0, 0]])
    let ws := m.command (run 4)
    let f := levelZero m ws
    (node.safe ∧ node.fuse.isV64 = true ∧ node.pwr.level = .keep ∧ w.safe ∧ w.pwr.level = .run ∧ w.flag Reg.imgCtrl 0 = true ∧
      w.img.ready = true ∧ w.img.exposed = true ∧ w.img.browned = false ∧ w.img.rows.length = 0 ∧ 0 < (frameShape w).2.1) ∧
      pixelWaits w = true ∧ mayIssue p .pe 0x40 = true ∧ p.eng.pe = some (run 4) ∧ mayIssue node .pe 0x40 = false ∧ node.eng.pe = none ∧
      m.safe ∧ m.eng.pe = some { run 4 with block := .busy ws } ∧ bits (wordAt ws 1) 31 28 ≠ 0 ∧ bit (wordAt ws 1) 19 = true ∧
      (pyramid 2 f).length = 2 ∧ 0 < f.rows ∧ 0 < f.cols ∧
      inOneRange 0x1000 (((pyramid 2 f).map fun f => (f.rows * f.cols + 15) / 16 * 16).sum) = true ∧ inOneRange 0x00200000 1056 = true := by
  dsimp only [State.safe, memorySafe, registersSafe]; and_intros <;> decide +kernel

theorem witness_FirmwareSlotStarts :
    let s := after State.reset [modPwr fun p => { p with phase := .armed }]
    s.safe ∧ s.pwr.phase = .armed ∧ s.pwr.triedA = false ∧ s.flt.log = [] ∧ node.pwr.phase ≠ .armed := by
  dsimp only [State.safe, memorySafe, registersSafe]; and_intros <;> decide +kernel

theorem witness_KeeperComesUp :
    let s := after State.reset [modPwr fun p => { p with phase := .firmware }, .mem Mram.copyA copyWords]
    let w := after s [modFlt fun f => { f with conds := [{ code := 0x0203, sev := 0, src := 0, data := 0, tick := none }] }]
    let f := after s [modPwr fun p => { p with fwSramOk := false }]
    s.safe ∧ s.pwr.phase = .firmware ∧ s.pwr.fwSramOk = true ∧ s.stg = Stg.reset ∧ s.flt.conds = [] ∧ s.newestCopy = some Mram.copyA ∧
      s.isHead = false ∧ State.reset.newestCopy = none ∧ node.pwr.phase ≠ .firmware ∧
      w.safe ∧ w.pwr.phase = .firmware ∧ w.pwr.fwSramOk = true ∧ w.stg = Stg.reset ∧ w.flt.conds ≠ [] ∧ f.pwr.fwSramOk = false := by
  dsimp only [State.safe, memorySafe, registersSafe]; and_intros <;> decide +kernel

theorem witness_BistReports :
    let w := after node [.reg Reg.pwrLevel 1]
    let r := after State.reset [modPwr fun p => { p with phase := .romOnly }]
    let b : Bist := { fwSram := true, coreOk := BitVec.allOnes 64, memDie := true, shSram := true, scion := true, pe := true, adcA := true, adcB := false }
    node.safe ∧ node.keeperUp = true ∧ node.pwr.bistRan = false ∧ State.reset.keeperUp = false ∧ State.reset.romOnly = false ∧
      (after node [modPwr fun p => { p with bistRan := true }]).pwr.bistRan = true ∧ r.safe ∧ r.romOnly = true ∧ r.pwr.bistRan = false ∧
      node.flag Reg.pwrLevel 0 = false ∧ w.flag Reg.pwrLevel 0 = true ∧ w.pwr.level = .keep ∧ b.adcA = true ∧ b.adcB = false ∧
      answers (.bistComplete b) w (fun t => t.allows .watch) = true := by
  dsimp only [State.safe, memorySafe, registersSafe]; and_intros <;> decide +kernel

theorem witness_FirmwareUpdateActs :
    let h := after State.reset [modPwr fun p => { p with phase := .hostBoot, straps := { p.straps with mode0 := true } }]
    let x := after node [modPwr fun p => { p with xfer := some { total := 9, data := [1] } }]
    Fresh 0x3F (ask (leBytes 4 0 ++ leBytes 4 1 ++ [1])) node ∧ node.safe ∧ Fresh 0x3F (ask (leBytes 4 1 ++ leBytes 4 9 ++ [2])) x ∧
      (∃ y, x.pwr.xfer = some y ∧ y.total = 9 ∧ y.data = [1]) ∧ Fresh 0x3F (ask (leBytes 4 0 ++ leBytes 4 2 ++ [1])) h := by
  dsimp only [Fresh, State.safe, memorySafe, registersSafe]
  exact ⟨by decide +kernel, by decide +kernel, by decide +kernel, ⟨_, rfl, rfl, rfl⟩, by decide +kernel⟩

theorem witness_HostReadsReturnReplies :
    let q := after node [queueReply [1, 2] 0 7 true]
    node.answers = true ∧ node.safe ∧ node.hp.queue = [] ∧ q.answers = true ∧ q.hp.queue = [⟨[1, 2], 0, 7, true⟩] ∧ State.reset.answers = false ∧
      (0x60 : Byte) ∉ ([0x61, 0x6A, 0x62, 0x6B, 0x63] : List Byte) := by
  dsimp only [State.safe, memorySafe, registersSafe]; and_intros <;> decide +kernel

/-- A request packet. -/
def packet (dest op tag : Nat) (payload : List Byte) : List Byte :=
  let body := leBytes 1 dest ++ leBytes 1 op ++ leBytes 1 tag ++ leBytes 2 payload.length ++ payload
  [0xA5] ++ body ++ leBytes 2 (crc16 body).toNat

theorem witness_BadRequestsAreTurnedAway :
    let p := packet 1 1 7 []
    let d := after head [acceptOut 1 1 7 8 2]
    let f := after head (List.replicate 8 (acceptOut 1 1 9 8 2))
    node.safe ∧ node.answers = true ∧ p.length = 8 ∧ field p 0 1 = 0xA5 ∧ field p 6 2 = (crc16 ((p.drop 1).take 5)).toNat ∧
      (packet 64 1 7 []).length = 8 ∧ head.isHead = true ∧ max 1 head.link.rowLen < 3 ∧ node.link.addr.toNat ≠ 1 ∧
      (∃ o ∈ d.hp.out, o.dest = 1 ∧ o.tag = 7) ∧ mustBusy f 1 8 = true := by
  dsimp only [State.safe, memorySafe, registersSafe]; and_intros <;> decide +kernel

theorem witness_PacketRunsItsRow :
    let p := packet 1 1 7 []
    let m := packet 0 1 7 []
    node.answers = true ∧ p.length = 8 ∧ field p 0 1 = 0xA5 ∧ field p 6 2 = (crc16 ((p.drop 1).take 5)).toNat ∧
      field m 6 2 = (crc16 ((m.drop 1).take 5)).toNat ∧ rowOf (field p 2 1) (ask []) = some (.ping (ask [])) ∧ node.isHead = false ∧
      head.isHead = true ∧ head.answers = true ∧ head.hp.out = [] ∧ mustBusy head 1 (largestReply 1 []) = false := by
  dsimp only; and_intros <;> decide +kernel

theorem witness_HeadForwardsAndTimesOut :
    let p := packet 2 1 7 []
    let m := packet 0x3F 0x1A 7 []
    let o := after head [acceptOut 2 1 7 8 2]
    let b := after head [acceptOut 0x3F 1 7 11 2]
    (head.answers = true ∧ head.isHead = true ∧ p.length = 8 ∧ field p 0 1 = 0xA5 ∧ field p 6 2 = (crc16 ((p.drop 1).take 5)).toNat ∧
      2 ≤ head.link.rowLen ∧ mustBusy head 2 (largestReply 1 []) = false ∧ head.hp.out = []) ∧
    (m.length = 8 ∧ field m 0 1 = 0xA5 ∧ field m 6 2 = (crc16 ((m.drop 1).take 5)).toNat ∧ field m 1 1 = 0x3F ∧
      mustBusy head 0x3F (9 + head.link.rowLen) = false ∧ 0x1A ∈ broadcastOps ∧ 0x02 ∉ broadcastOps ∧
      (rowOf 0x1A (ask [])).isSome = true) ∧
    o.safe ∧ (o.hp.out.find? fun o => o.dest == 2 && o.tag == 7 && !o.queued) ≠ none ∧ b.safe ∧
      (b.hp.out.find? fun o => o.dest == 0x3F && o.tag == 7 && !o.queued) ≠ none ∧
      (head.hp.out.find? fun o => o.dest == 2 && o.tag == 7 && !o.queued) = none := by
  dsimp only [State.safe, memorySafe, registersSafe]; and_intros <;> decide +kernel

/-- Twelve bytes of an EVENT. -/
def eventBytes (code : Nat) : List Byte := leBytes 2 code ++ [0, 0] ++ leBytes 4 5 ++ leBytes 4 3

theorem witness_FramesAreTakenInOrder :
    let f := frame 3 1 0 (eventBytes 1)
    let k := frame 3 1 0 (List.replicate 16 0)
    let u := after node [modPort .up fun q => { q with up := true }]
    member.safe ∧ (member.port .up).up = true ∧ (node.port .up).up = false ∧ goodLen 9 12 = true ∧ goodLen 9 10 = false ∧
      (((member.port .up).rxExp - (255 : Byte)).toNat = 1 ∧ ((member.port .up).rxExp - (192 : Byte)).toNat = 64 ∧
        ((member.port .up).rxExp - (191 : Byte)).toNat = 65) ∧
      f.seq = (member.port .up).rxExp ∧ InSequence .up 9 f member ∧ member.link.addr = 2 ∧ f.dst.toNat = 3 ∧ (frame 33 1 0 []).dst.toNat = 33 ∧
      (InSequence .up 2 k member ∧ winPassed member k.win = true ∧ (member.port Port.up.opposite).up = true) ∧
      u.safe ∧ u.link.addr = 0 ∧ InSequence .up 9 f u := by
  dsimp only [InSequence, State.safe, memorySafe, registersSafe]; and_intros <;> decide +kernel

theorem witness_PktCarriesRequestsAndReplies :
    let f := frame 2 1 0 (packet 2 1 7 [])
    let b := frame 0x3F 1 0 (packet 0x3F 0x1A 7 [])
    let h := after head [acceptOut 2 1 7 8 2]
    let w := after head [acceptOut 0x3F 0x1A 7 11 2]
    let g := frame 1 2 0 (padEven (replyPacket 2 1 7 0 []))
    let due := fun (o : OutReq) => o.dest == 0x3F && o.tag == 7 && !o.queued
    (InSequence .up 1 f member ∧ f.dst = member.link.addr ∧ member.answers = true ∧ member.isHead = false ∧ field f.payload 0 1 = 0xA5 ∧
      f.payload.length = 8 ∧ field f.payload 6 2 = (crc16 ((f.payload.drop 1).take 5)).toNat) ∧
    (InSequence .up 1 b member ∧ b.dst = 0x3F ∧ field b.payload 6 2 = (crc16 ((b.payload.drop 1).take 5)).toNat ∧
      InSequence .dn 1 f member) ∧
    (InSequence .dn 1 g h ∧ g.dst = h.link.addr ∧ h.isHead = true ∧ field g.payload 0 1 = 0x5A ∧ h.safe ∧
      (∃ o ∈ h.hp.out, o.dest = 2 ∧ o.tag = 7 ∧ o.queued = false ∧ o.opcode.toNat = 1) ∧ head.hp.out = [] ∧ head.safe ∧
      InSequence .dn 1 g head) ∧
    InSequence .dn 1 g w ∧ w.safe ∧ (w.hp.out.filter due).length = 1 ∧ (∀ o ∈ w.hp.out, o.got = [] ∧ o.dest ≠ 2 ∧ o.rowLen = 2) := by
  dsimp only [InSequence, State.safe, memorySafe, registersSafe]; and_intros <;> decide +kernel

theorem witness_HeadTakesEvents :
    let f := frame 1 2 0 (eventBytes 0x0101)
    let r := after (busy head) [modRes fun r => { r with valid := true }]
    let due := after head [modFlt fun x => { x with conds := [⟨0x0F01, 0, 1, 0, none⟩] }]
    let known := after head [modFlt fun x => { x with log := [⟨0x8101, 0, false, false, false, 2, 5, 3, 1, 0⟩] }]
    head.safe ∧ InSequence .dn 9 f head ∧ f.dst = head.link.addr ∧ head.isHead = true ∧ head.romOnly = false ∧ head.bootRecordDue = false ∧
      due.bootRecordDue = true ∧ due.safe ∧ known.bootRecordDue = false ∧
      (known.flt.log.getLast?.map fun x => (x.code, x.src, x.tick)) = some (0x8101, f.src.toNat, 5) ∧ field f.payload 4 4 = 5 ∧
      r.reports = true ∧ r.res.done = false ∧ r.res.copy = none ∧ r.res.page0 = none ∧ r.res.page1 = none := by
  dsimp only [InSequence, State.safe, memorySafe, registersSafe]; and_intros <;> decide +kernel

theorem witness_LinksComeUpAndGoDown :
    let ready := fun q : PortSt => { q with up := false, train0 := 16, train1 := 15, trainTx := some 16 }
    let t := after node [modPort .up ready]
    let j := after member [modPort .dn ready, .reg Reg.rlCtrl 0x100]
    let o := after node [modPort .dn ready, modLink fun l => { l with dnWait := some (3, 80) }]
    node.portUsed .up = true ∧ (node.port .up).up = false ∧ (node.port .up).trainTx = none ∧ t.portUsed .up = true ∧
      (t.port .up).train0 = 16 ∧ (t.port .up).train1 = 15 ∧ (t.port .up).trainTx = some 16 ∧ (t.port .up).up = false ∧
      head.portUsed .up = false ∧ j.portUsed .dn = true ∧ (j.port .dn).up = false ∧ (j.port .dn).trainTx = some 16 ∧ j.link.dnWait = none ∧
      j.link.rowUp = true ∧ j.flag Reg.rlCtrl 8 = true ∧ j.link.addr ≠ 0 ∧ o.link.dnWait = some (3, 80) ∧ o.portUsed .dn = true ∧
      member.safe ∧ (member.port .up).up = true ∧ member.isHead = false ∧ member.link.rowUp = true ∧ head.safe ∧
      (head.port .dn).up = true ∧ head.isHead = true := by
  dsimp only [State.safe, memorySafe, registersSafe]; and_intros <;> decide +kernel

theorem witness_ReplayBufferIsRuled :
    let f : Nat → TxFrame := fun n => ⟨2, 1, 2, BitVec.ofNat 8 n, 0, 0, [], n, none⟩
    let s := after member [modPort .up fun q => { q with replay := [f 2, f 3], txSeq := 4 }]
    s.safe ∧ ((s.port .up).txSeq - 1 - 2).toNat < 128 ∧ (∃ f ∈ (s.port .up).replay, (f.seq - 2).toNat < 128) ∧
      128 ≤ ((member.port .up).txSeq - 1 - 2).toNat ∧ (s.port .up).replay = [f 2, f 3] ∧ (member.port .up).replay = [] ∧
      3 ≤ (f 3).resends ∧ winPassed s 0 = true ∧ winPassed s 0x00500064 = false ∧ (s.port .up).up = true ∧
      (member.port .up).waiting = [] := by
  dsimp only [State.safe, memorySafe, registersSafe]; and_intros <;> decide +kernel

theorem witness_OrderedSetsAndBadFramesAct :
    let e := after member [modLink fun l => { l with echoes := List.replicate 15 600 }]
    let w := fun f : TxFrame => after member [modPort .up fun q => { q with waiting := [f] }]
    let out : TxFrame := ⟨9, 1, 2, 0, 0, 0, List.replicate 12 0, 0, none⟩
    let hear := (member.port .up).hear
    let set := hear (lanesOf [.set ⟨0x30, [1, 0, 0, 0, 0]⟩])
    let bad := hear ⟨List.replicate 16 0, []⟩
    let whole := hear (lanesOf [.frame sentFrame])
    let event : RxFrame := ⟨3, 1, 0, 0, 0, List.replicate 12 7⟩
    let cutIn := fun lane : Bool => encodeLane false ((wireSymbols lane (.frame sentFrame)).take 4 ++
      osetSymbols lane ⟨0x30, [1, 0, 0, 0, 0]⟩ ++ (wireSymbols lane (.frame sentFrame)).drop 4)
    let mixed := (hear ⟨cutIn false, cutIn true⟩).cut
    let void := (hear (lanesOf [.void [1, 2]])).cut
    let train := fun lane : Bool => laneSet (if lane then ((node.port .up).hear (lanesOf [.set ⟨0x10, [0, 1, 5, 0, 0]⟩])).lane1
      else ((node.port .up).hear (lanesOf [.set ⟨0x10, [0, 1, 5, 0, 0]⟩])).lane0)
    (member.safe ∧ (member.port .up).up = true ∧ node.portUsed .up = true ∧ e.safe ∧ e.link.upPort.up = true ∧ e.link.echoes.length = 15 ∧
      (node.port .up).up = false) ∧
    (receivedSet ⟨[], []⟩ = none ∧ (member.errorsWith .up 0).length < 16 ∧ member.portUsed .up = true ∧
      receivedSet set = some ⟨0x30, [1, 0, 0, 0, 0]⟩ ∧ setRow .up ⟨0x30, [1, 0, 0, 0, 0]⟩ = some (.ack .up 1) ∧ symbolErrors set = 0 ∧
      receivedSet bad = none ∧ 16 ≤ (member.errorsWith .up (symbolErrors bad)).length ∧
      train false = some ⟨0x10, [0, 1, 5, 0, 0]⟩ ∧ train true = some ⟨0x10, [1, 1, 5, 0, 0]⟩) ∧
    (whole.cut.sets = [] ∧ judgeFrame whole.cut.frame = .good 9 event ∧ frameRow .up 9 event = some (.event .up event) ∧
      symbolErrors whole = 0 ∧ mixed.sets = [set] ∧ judgeFrame mixed.frame = .good 9 event ∧
      judgeFrame ⟨[], []⟩ = .bad 2 [] ∧ void.sets = [] ∧ judgeFrame void.frame = .void [some 1, some 2]) ∧
    ((w out).port .up).waiting = [out] ∧ (member.port .up).waiting = [] ∧ (w out).safe ∧
      ((w out).port .up).canStart out.typ out.payload.length = true ∧
      ({ (w out).port .up with up := false }).canStart out.typ out.payload.length = false ∧ (out.typ ≠ 2 ∧ out.typ ≠ 3 ∧ out.resends < 3) ∧
      winPassed member 0 = true := by
  dsimp only [State.safe, memorySafe, registersSafe]; and_intros <;> decide +kernel

theorem witness_MembersTakeAddresses :
    let f := fun n : Nat => frame 0 1 0 ([0, BitVec.ofNat 8 n, 0, 0] ++ List.replicate 12 0)
    let w := after node [modLink fun l => { l with dnWait := some (3, 80) }]
    let alone := after member [modPort .dn fun q => { q with up := false }]
    member.safe ∧ InSequence .up 4 (f 2) member ∧ (f 2).dst = 0 ∧ member.isHead = false ∧ field (f 2).payload 1 1 = 2 ∧
      field (f 0).payload 1 1 = 0 ∧ field (f 32).payload 1 1 = 32 ∧ InSequence .up 4 (f 33) member ∧ field (f 33).payload 1 1 = 33 ∧
      InSequence .dn 4 (f 2) member ∧ member.link.dnPort.up = true ∧ InSequence .up 4 (f 2) alone ∧ alone.link.dnPort.up = false ∧
      w.isHead = false ∧ w.link.dnWait ≠ none ∧ w.link.dnPort.up = false ∧ node.link.dnWait = none := by
  dsimp only [InSequence, State.safe, memorySafe, registersSafe]; and_intros <;> decide +kernel

theorem witness_HeadEnumerates :
    let f := frame 1 2 0 ([1, 2, 0, 1] ++ List.replicate 12 0)
    let e := after head [modLink fun l => { l with enumBusy := true, enumReqs := [ask []] }, modWindow .host (touchTag 7)]
    let d := after e [modLink fun l => { l with dnWait := some (2, 0), dnPort := { l.dnPort with up := false } }]
    Fresh 0x03 (ask []) head ∧ head.isHead = true ∧ head.tick.sched = false ∧ e.safe ∧ InSequence .dn 4 f e ∧ f.dst = e.link.addr ∧
      e.link.enumBusy = true ∧ e.link.enumReqs = [ask []] ∧ (∃ x ∈ e.hp.window .host, x.tag = 7) ∧ d.safe ∧ d.link.dnWait ≠ none ∧
      d.link.dnPort.up = false ∧ head.link.enumBusy = false ∧ node.isHead = false := by
  dsimp only [Fresh, InSequence, State.safe, memorySafe, registersSafe]; and_intros <;> decide +kernel

theorem witness_TokenHalvesPair :
    let f := frame 2 1 0 (List.replicate 16 0)
    let h : Half := { isA := false, src := 1, pair := 0, win := 0, payload := [], port := .up, units := 1 }
    let s := after member [modTick fun t => { t with num := 0 }, modLink fun l => { l with halves := [h] }]
    member.safe ∧ InSequence .up 2 f member ∧ InSequence .up 3 f member ∧ f.dst = member.link.addr ∧ winPassed member f.win = true ∧ s.safe ∧
      InSequence .up 2 { f with win := 500 } s ∧ winPassed s 500 = false ∧
      (s.link.halves.find? fun h => h.isA != true && h.src == f.src && h.pair == f.aux) = some h ∧ s.xe.inbound = none ∧
      (s.link.halves.find? fun h => h.src == 1 && h.pair == 0) = some h ∧ (member.link.halves.find? fun h => h.src == 1 && h.pair == 0) = none := by
  dsimp only [InSequence, State.safe, memorySafe, registersSafe]; and_intros <;> decide +kernel

theorem witness_SetsPassAlongTheRow :
    let s := after member [modLink fun l => { l with hseqRx := [(1, 0, 0)] }]
    head.isHead = true ∧ member.isHead = false ∧ member.repeats = true ∧ member.link.upPort.up = true ∧ (node.port .up).up = false ∧ member.safe ∧
      (member.port .up).up = true ∧ member.link.hseqRx = [] ∧ (∃ e ∈ s.link.hseqRx, e.1 = 1 ∧ e.2.1 = 0 ∧ s.now - e.2.2 ≤ 100000) := by
  dsimp only [State.safe, memorySafe, registersSafe]; and_intros <;> decide +kernel

theorem witness_SpecialRegistersAndPinsAct :
    let g := after node [.reg Reg.pmGpioCfg0 0x400]
    let n := after node [setFlag .irqFrameErr]
    let h := after node [.reg Reg.cmp0Ctrl 0x80000000, .reg Reg.pmAinMode 0xFFFF, modPins fun p => { p with hand := [⟨8, none⟩] }]
    let u := after h [modPins fun p => { p with hand := [] }]
    node.safe ∧ node.eng.image = none ∧ node.flag Reg.trCtrl 0 = false ∧ g.safe ∧ g.fld Reg.pmGpioCfg0 3 0 = 0 ∧ g.handHold 0 = none ∧
      g.flag Reg.pmGpioCfg0 10 = true ∧ node.flag Reg.pmGpioFlags 11 = false ∧ n.safe ∧
      n.cycle.counts = [⟨Reg.hpCnt4, 15, 0, 1⟩] ∧ Reg.hpCnt4 ∈ saturatingRegs ∧
      (∀ i, 0 ≤ i → i ≤ 15 → (heldMask Reg.hpCnt4).getLsbD i = true) ∧
      h.safe ∧ h.cmpRuns 0 = false ∧ u.cmpRuns 0 = true := by
  dsimp only [State.safe, memorySafe, registersSafe]; and_intros <;> decide +kernel

theorem witness_TriggersStartSequences :
    let s := after (busy member) [.reg Reg.adcARegCtrl 0x98000000, .reg Reg.adcAInjCtrl 0x80010000, .reg Reg.adcATmr 1000]
    let r := fun x : RegRun => after s [modAdc fun a => { a with a := { a.a with reg := some x } }]
    let i := after s [modAdc fun a => { a with a := { a.a with inj := some 0 } }]
    let h := after s [modAdc fun a => { a with a := { a.a with held := some false } }]
    let c := after s [modAdc fun a => { a with a := { a.a with regClk := some 0, injClk := some 0 } }]
    (s.safe ∧ s.flag (regCtrl .a) 27 = true ∧ s.convRuns .a = true ∧ s.flag (regCtrl .a) 31 = true ∧ (s.conv .a).reg = none ∧
      (s.conv .a).inj = none ∧ (s.conv .a).held = none ∧ (s.conv .a).regClk ≠ some s.adcClock ∧ (s.conv .a).injClk ≠ some s.adcClock ∧
      regularEntries s.stored .a ≠ [] ∧ s.flag (regCtrl .a) 28 = true ∧ s.fld (Reg.adcATmr + convBase .a) 19 0 ≠ 0) ∧
      (c.conv .a).regClk = some c.adcClock ∧ (c.conv .a).injClk = some c.adcClock ∧ (h.conv .a).held ≠ none ∧ h.safe ∧
      s.tick.edges = true ∧ s.offset < s.period - guardOf s.period ∧ s.flag (injCtrl .a) 31 = true ∧ injectedEntries s.stored .a ≠ [] ∧
      (∀ x ∈ ([⟨0, true, false, 5, some 40⟩, ⟨0, true, true, 5, some 40⟩, ⟨0, false, false, 5, none⟩] : List RegRun),
        ((r x).conv .a).reg = some x ∧ ((r x).conv .a).inj = none ∧ x.clk ≠ some (r x).adcClock) ∧
      (∀ x ∈ ([⟨0, true, false, 5, some 0⟩, ⟨0, false, false, 5, some 0⟩] : List RegRun), ((r x).conv .a).reg = some x ∧ x.clk = some (r x).adcClock) ∧
      (r ⟨0, true, false, 5, some 0⟩).safe ∧ i.safe ∧ (i.conv .a).inj = some 0 ∧ node.flag (regCtrl .a) 27 = false := by
  dsimp only [State.safe, memorySafe, registersSafe]; and_intros <;> decide +kernel

theorem witness_ConversionsDeliver :
    let s := fun (k : ConvSt) (y : Option Word) => after node [modAdc fun a => { a with a := k, crossB := y }]
    let i := s { ConvSt.reset with inj := some 0 } none
    let r := s { ConvSt.reset with reg := some ⟨0, false, false, 5, none⟩ } none
    let x := s { ConvSt.reset with reg := some ⟨0, true, false, 5, none⟩ }
    let v := s { ConvSt.reset with reg := some ⟨0, true, true, 5, none⟩ } none
    i.safe ∧ (i.conv .a).inj = some 0 ∧ i.flag Reg.mvCtrl 0 = false ∧ (i.conv .a).refnr = false ∧ r.safe ∧
      (r.conv .a).reg = some ⟨0, false, false, 5, none⟩ ∧ (r.conv .a).inj = none ∧ (x (some 5)).safe ∧
      ((x (some 5)).conv .a).reg = some ⟨0, true, false, 5, none⟩ ∧ (x (some 5)).adc.crossB = some 5 ∧ (x none).safe ∧
      ((x none).conv .a).reg = some ⟨0, true, false, 5, none⟩ ∧ (x none).adc.crossB = none ∧ (x none).flag Reg.mvCtrl 0 = false ∧
      (v.conv .a).reg = some ⟨0, true, true, 5, none⟩ ∧ (node.conv .a).reg = none := by
  dsimp only [State.safe, memorySafe, registersSafe]; and_intros <;> decide +kernel

theorem witness_MoverAndReferenceAct :
    let s := after (busy member) [.reg Reg.mvCtrl 1, .reg Reg.mvBase 0x10000, .reg Reg.mvShape 0x20000,
      modAdc fun a => { a with a := { a.a with reg := some ⟨0, false, false, 5, none⟩ } }]
    let b := after s [modAdc fun a => { a with lastB := some (0, false), live := 1 }]
    let f := after s [modAdc fun a => { a with live := 1024 }]
    let c := after s [modAdc fun a => { a with closing := true, refReady := true }, .reg Reg.adcRef 1]
    (s.safe ∧ (s.conv .a).inj = none ∧ s.flag Reg.mvCtrl 0 = true ∧ s.pagePowered = true ∧ s.adc.closing = false ∧
      inOneRange 0x10000 8192 = true ∧ inOneRange 0x20000 8 = true ∧ regionOf 0x20000 ≠ some .mram ∧
      (s.stored Reg.mvBase).toNat = 0x10000 ∧ (s.stored Reg.mvShape).toNat = 0x20000 ∧ s.adc.live < 1024 ∧ s.adc.lastB = none) ∧
      b.safe ∧ b.adc.lastB = some (b.adcClock, false) ∧ 1 ≤ b.adc.live ∧
      f.safe ∧ 1024 ≤ f.adc.live ∧ c.safe ∧ c.adc.closing = true ∧ c.adc.refReady = true ∧ c.flag Reg.adcRef 0 = true ∧ c.pagePowered = true ∧
      c.pwr.level ≠ .keep ∧ node.adc.closing = false ∧ node.adc.refReady = false ∧ node.pagePowered = false ∧ node.flag Reg.adcRef 0 = false := by
  dsimp only [State.safe, memorySafe, registersSafe]; and_intros <;> decide +kernel

theorem witness_StandingModelActs :
    let j := after node [modWm fun w => { w with job := some { bytes := [], ok := false } }]
    let w := after node [modPwr fun p => { p with level := .watch }, modWm fun w => { w with valid := true }]
    node.safe ∧ node.wm.job = none ∧ j.safe ∧ j.wm.job ≠ none ∧ j.wm.job = some { bytes := [], ok := false } ∧ w.pwr.level = .watch ∧
      w.wm.valid = true ∧ w.wm.settings = true ∧ w.tick.edges = false ∧ node.pwr.level ≠ .watch := by
  dsimp only [State.safe, memorySafe, registersSafe]; and_intros <;> decide +kernel

theorem witness_TickEdgeAdvances :
    let a := after member [modTick fun t => { t with announced := some 6 }, frozen]
    let h := after head [.reg Reg.tickCtrl 5, modTick fun t => { t with announced := some 6, flywheel := true, flyCount := 15 }]
    let p := after (busy node) [.reg Reg.tickCtrl 2, modEng fun _ => { Eng.reset with image := some image },
      modTick fun t => { t with pass := true, entries := List.replicate 5 .done }]
    let o := after (busy member) [modTick fun t => { t with announced := some 6, sched := false, startAt := some 0 }]
    a.safe ∧ a.dueEdge = some (6, .source) ∧ member.dueEdge = some (6, .missed) ∧ h.safe ∧ h.dueEdge = some (6, .flywheel) ∧
      node.dueEdge = none ∧ (busy member).working = true ∧ p.safe ∧ p.passOver = true ∧ node.passOver = false ∧ o.safe ∧
      o.dueEdge = some (6, .source) ∧ o.tick.startAt = some 0 := by
  dsimp only [State.safe, memorySafe, registersSafe]; and_intros <;> decide +kernel

theorem witness_TickEdgeAdvances_banks : banksOrdered (after member [frozen]) :=
  ⟨by decide +kernel, by intro p h; cases h; decide +kernel⟩

theorem witness_EnergyAndHeat :
    let w := after node [modPwr fun p => { p with level := .watch }]
    let h := after w [modEn fun e => { e with hold := true }]
    let c := after member [modEn fun e => { e with change := some (false, 63), hot := 7, floor := 2 }]
    member.safe ∧ member.dueEdge = some (6, .missed) ∧ member.tick.edges = true ∧ member.tick.metered = true ∧ node.pwr.level = .keep ∧ w.safe ∧
      w.pwr.level ≠ .keep ∧ w.tick.edges = false ∧ h.safe ∧ h.en.hold = true ∧ node.en.hold = false ∧ w.en.sens.length = 6 ∧
      c.safe ∧ c.dueEdge = some (6, .missed) ∧ c.en.change = some (false, 63) := by
  dsimp only [State.safe, memorySafe, registersSafe]; and_intros <;> decide +kernel

theorem witness_TickSourcesAct :
    let i := after head [.reg Reg.tickCtrl 1]
    let t := after head [.reg Reg.tickCtrl 5, modTick fun t => { t with accepted := 1 }]
    let e := fun x : Ending => after head [modTick fun t => { t with ending := x }]
    let s := after head [modTick fun t => { t with running := false, edges := false, edgeAt := none }]
    s.safe ∧ s.isHead = true ∧ s.flag Reg.tickCtrl 0 = false ∧ s.freeRun = false ∧ s.tick.ending = .none ∧ i.safe ∧ i.keeperUp = true ∧
      i.flag Reg.tickCtrl 0 = true ∧ i.tick.running = true ∧ i.tick.announced = none ∧ i.flag Reg.tickCtrl 2 = false ∧ t.safe ∧
      t.flag Reg.tickCtrl 2 = true ∧ t.tick.flywheel = false ∧ 1 ≤ t.tick.accepted ∧
      t.now - t.tick.acceptAt < (t.period - guardOf t.period) * 1000 ∧ (e .lastTick).safe ∧ (e .lastTick).tick.ending = .lastTick ∧
      (e .lastAndMore).safe ∧ (e .lastAndMore).tick.ending = .lastAndMore ∧
      node.tick.ending ≠ .lastTick ∧ node.tick.ending ≠ .lastAndMore ∧ member.tick.edges = true ∧ member.tick.pass = false := by
  dsimp only [State.safe, memorySafe, registersSafe]; and_intros <;> decide +kernel

theorem witness_TickSourcesAct_banks : banksOrdered (after head [modTick fun t => { t with ending := .lastTick }]) :=
  ⟨by decide +kernel, by intro p h; cases h⟩

theorem witness_SlotsRunInOrder :
    let f := after (busy member) [modEng fun x => { x with me0 := none }, modTick fun t => { t with entries := List.replicate 5 .notDue }]
    let d := after (busy member) [modEng fun x => { x with ve := some { run 2 with pos := 40, ended := true } }]
    let o := after (busy member) [modTick fun t => { t with entries := [.done] }, modDsp fun x => { x with descs := [mkDesc .me0 (run 0) [] 9 1 1] }]
    f.safe ∧ f.tick.sched = true ∧ f.pwr.level = .run ∧ f.freeRun = false ∧ f.tick.guard = false ∧ f.entry 4 = .notDue ∧ f.canStart 0 = true ∧
      f.slot? 0 ≠ none ∧ f.canStart 4 = false ∧ (busy member).safe ∧ (busy member).entry 0 = .started ∧ node.tick.sched = false ∧
      o.safe ∧ o.entry 0 = .done ∧ (∃ d ∈ o.dsp.descs, d.entry = 0) ∧ node.freeRun = false ∧
      d.runOf .ve ≠ none ∧ d.listDone { run 2 with pos := 40, ended := true } = true ∧ d.listDone (run 2) = false ∧ node.runOf .ve = none := by
  dsimp only [State.safe, memorySafe, registersSafe]; and_intros <;> decide +kernel

theorem witness_ReportsAreMade :
    let c := after node [modRes fun r => { r with copy := some (true, 5, [1]) }]
    let d := after (busy member) [modRes fun r => { r with valid := true }, .reg Reg.resCtrl 0x80000000,
      modEng fun x => { x with me0 := some { run 0 with pos := 40, ended := true } }]
    let p := after d [.reg Reg.tickCtrl 2, modEng fun _ => { Eng.reset with image := some image },
      modTick fun t => { t with pass := true, entries := List.replicate 5 .done }]
    c.safe ∧ c.res.copy = some (true, 5, [1]) ∧ node.res.copy = none ∧ d.safe ∧ d.runOf .me0 = some { run 0 with pos := 40, ended := true } ∧
      d.listDone { run 0 with pos := 40, ended := true } = true ∧ d.tick.entries.length = 5 ∧ d.wm.frame = false ∧ d.res.valid = true ∧
      d.pwr.level = .run ∧ d.res.done = false ∧ d.entry 0 ≠ .done ∧ d.fld Reg.resCtrl 8 0 = 0 ∧ d.tick.entries ≠ [] ∧ d.stg.pend = none ∧
      d.pwr.pend = none ∧ d.tick.startAt = none ∧ d.dueEdge ≠ none ∧ p.safe ∧ p.passOver = true ∧ p.res.done = false := by
  dsimp only [State.safe, memorySafe, registersSafe]; and_intros <;> decide +kernel

theorem witness_ListControlActs :
    let s := fun ws : List Word => after (busy member) [listing 2 ws]
    let b := fun k : Block => after (busy member) [modEng fun x => { x with ve := some { run 2 with block := k } }]
    mayIssue (s [header 0 1]) .ve 0x00 = true ∧ mayIssue (s [header 2 3, 0x00010000, 5]) .ve 0x02 = true ∧
      mayIssue (s [header 3 2, 0xFFFF003F]) .ve 0x03 = true ∧ mayIssue (s [header 4 2, 0x80000000]) .ve 0x04 = true ∧
      mayIssue (s [header 5 3, 0x200, 1]) .ve 0x05 = true ∧ (s [header 5 3, 0x200, 1]).safe ∧ (s [header 0 1]).runOf .ve = some (run 2) ∧
      2 ≤ hdrNw ((s [header 3 2, 0xFFFF003F]).rd32 (run 2).at) ∧ 3 ≤ hdrNw ((s [header 5 3, 0x200, 1]).rd32 (run 2).at) ∧
      (b (.sync 0 1 5)).runOf .ve = some { run 2 with block := .sync 0 1 5 } ∧ (b (.sync 0 1 5)).fence 0 < 1 ∧ (b (.sync 0 0 0)).fence 0 = 0 ∧
      (b (.waitSlot true 0)).runOf .ve = some { run 2 with block := .waitSlot true 0 } ∧ mayIssue node .ve 0x00 = false := by
  dsimp only [State.safe, memorySafe, registersSafe]; and_intros <;> decide +kernel

/-- A MATMUL of a 64 by 32 FP32 tensor with a 32 by 64 one. -/
def matmulWords : List Word :=
  [header 0x10 20, 0x10010000, 0x00200040, 0x00000800, 0, 0x10020000, 0x00400020, 0x00000800, 0, 0x10030000, 0x00400040, 0x00000800, 0]

theorem witness_WorkIsEnqueued :
    let s := after (busy member) [listing 0 matmulWords]
    let v := after (busy member) [listing 2 ([header 0x32 15] ++ matmulWords.drop 1)]
    let d := (mkDesc .ve (run 2) [] 9 1 1)
    let h := after (busy member) [modEng fun x => { x with ve := some { run 2 with block := .held d } }]
    let b := after (busy member) [modEng fun x => { x with me0 := some { run 0 with block := .held d }, me1 := some { run 1 with block := .held d } }]
    let m := after s [modSm fun m => { m with moving := true }, .reg Reg.smKBase 0x10010000, .reg Reg.smRowbytes 0x00200020,
      .reg Reg.smRows 4, .reg Reg.smCtrl 2]
    s.safe ∧ mayIssue s .me0 0x10 = true ∧ smHolds s (s.command (run 0)) = false ∧ s.runOf .me0 = some (run 0) ∧
      commandExtent s [trefAt (s.command (run 0)) 1, trefAt (s.command (run 0)) 5] ≠ 0 ∧ s.dsp.level 0 < 256 ∧
      (∀ x ∈ enginesBefore .ve, s.heldBy x 0 = none) ∧ v.safe ∧ mayIssue v .ve 0x32 = true ∧
      h.runOf .ve = some { run 2 with block := .held d } ∧ h.dsp.level d.prio < 256 ∧ (∀ x ∈ enginesBefore .ve, h.heldBy x d.prio = none) ∧
      b.runOf .me0 = some { run 0 with block := .held d } ∧ b.runOf .me1 = some { run 1 with block := .held d } ∧ b.dsp.ready = [] ∧
      b.dsp.level d.prio < 255 ∧ m.safe ∧ smHolds m (m.command (run 0)) = true ∧ mayIssue node .ve 0x20 = false := by
  dsimp only [State.safe, memorySafe, registersSafe]; and_intros <;> decide +kernel

theorem witness_UnitsWork :
    let d := mkDesc .ve (run 2) ([header 0x32 15] ++ matmulWords.drop 1) 9 1 64
    let i : Item := { desc := 0, tile := 0, typ := 9 }
    let s := after (busy member) [modDsp fun x => { x with descs := [d], ready := [0], nextId := 1 }]
    let w := after s [modDsp fun x => { x with descs := [{ d with stallAt := some 0 }] }, .reg Reg.trCtrl 0x1F012001, .reg Reg.trUnit 0x00FF0000]
    let a := after (busy member) [modDsp fun x => { x with descs := [{ d with next := 1 }], active := [(64, i)], nextId := 1 }]
    node.dsp.ready = [] ∧ node.dsp.conts = [] ∧ s.safe ∧
      ((takers s .vector).findSome? fun u => (pickFor s u.1).map fun p => (u, p)) = some ((64, false), i, true) ∧ s.dsp.desc? 0 = some d ∧
      ((takers w .vector).findSome? fun u => (pickFor w u.1).map fun p => (u, p)) = some ((64, false), i, true) ∧ w.safe ∧
      w.dsp.desc? 0 = some { d with stallAt := some 0 } ∧ tracePasses w 5 d.prio d.src 0xFF = true ∧ tracePasses w 1 d.prio d.src 64 = false ∧
      tracePasses w 2 d.prio d.src 64 = false ∧ tracePasses w 3 d.prio d.src 64 = false ∧ w.units.trace.buffered < 64 ∧
      a.safe ∧ ((a.dsp.active.find? fun x => x.1 == 64).bind fun x => (a.dsp.desc? x.2.desc).map fun d => (x.2, d)) =
        some (i, { d with next := 1 }) ∧ node.flag Reg.trCtrl 0 = false := by
  dsimp only [State.safe, memorySafe, registersSafe]; and_intros <;> decide +kernel

/-- A map of one layer with one expert on node 2, fed by node 1. -/
def mapWords : List Word := [1, 0, 0, 0, 1, 0x00000040, 1, 0, 0x02000004, 0x00100000, 4, 0x300]

theorem witness_ExchangeActs :
    let s := fun ws : List Word => after (busy member) [.mem 0x10000040 (mapWords.flatMap wordBytes), listing 3 ws]
    let x := [0x10010000, 0x00400004, 0x00000000, 0, 0x00200000]
    let sort := s ([header 0x22 9] ++ x ++ [0x00210000, 0, 0])
    let sc := s ([header 0x21 8] ++ x ++ [0, 0])
    let ex := s [header 0x23 6, 0x00210000, 0x00220000, 1024, 0, 0]
    let co := s ([header 0x24 15] ++ x.take 4 ++ x.take 4 ++ x.take 4 ++ [0x00200000, 0x00000100])
    let g : Seg := { src := 1, total := some 1, pairHdr := 0, counts := [], got := 0 }
    let b : Inbound := { layer := 0, kind := 0, fc := 0, recv := 0, bytes := 0, shapeOff := 0, win := 0, segs := [g], arrived := [] }
    let i := after (busy member) [modXe fun x => { x with inbound := some b }]
    let p := after member [modXe fun x => { x with pairs := [{ src := 1, pair := 0, win := 0, a := [], b := [], port := .up, units := 1, full := false }] }]
    (∀ y ∈ ([(sort, 0x22), (sc, 0x21), (ex, 0x23), (co, 0x24)] : List (State × Nat)), y.1.eng.xe = some (run 3) ∧
      (y.1.layer? (xeLayer (y.1.command (run 3)))).isSome = true ∧ mayIssue y.1 .xe y.2 = true ∧ smHolds y.1 (y.1.command (run 3)) = false ∧
      y.1.xe.inbound = none) ∧
    sort.safe ∧ sc.safe ∧ ex.safe ∧ co.safe ∧ mayIssue node .xe 0x24 = false ∧ node.xe.inbound = none ∧ node.xe.pairs = [] ∧ p.safe ∧
      p.xe.inbound = none ∧ (∃ q ∈ p.xe.pairs, winPassed p q.win = true) ∧ i.safe ∧ i.xe.inbound = some b ∧ i.xe.inbound ≠ none ∧ b.fc < 64 := by
  dsimp only [State.safe, memorySafe, registersSafe]; and_intros <;> decide +kernel

theorem witness_NarrowingRoundsAndClamps : (0x7F < 2 ^ fmtBits Fmt.i8) ∧ numOf Fmt.i8 0x7F ≠ .nan := by decide +kernel

theorem witness_StepKeepsSafe : State.reset.safe ∧ (∃ t, step State.reset = .next t) := by
  simp only [State.safe, memorySafe, registersSafe]
  exact ⟨by decide +kernel, ⟨_, rfl⟩⟩

theorem witness_CommandsCompleteAlways :
    node.pending = [] ∧ node.portUsed .up = true ∧ (node.port .up).up = false ∧ (node.port .up).osets = [] ∧ (node.port .up).trainTx = none ∧
      (∀ p ∈ [Port.up, Port.dn], (member.port p).up = true) ∧ member.xe.pairs = [] ∧ member.pending = [] := by
  and_intros <;> decide +kernel

theorem witness_StagedFieldsAndLatchesHold : node.safe ∧ (∃ t, exec .imgReady node = .next t) := by
  simp only [State.safe, memorySafe, registersSafe]
  exact ⟨by decide +kernel, ⟨_, rfl⟩⟩

theorem witness_StepKeepsBounds : banksOrdered node ∧ node.hp.winHost.length ≤ 8 ∧ node.flt.log.length ≤ 256 ∧ 1 ≤ node.flt.seq ∧
    (∃ t, step node = .next t) :=
  ⟨⟨by decide +kernel, by intro p h; cases h⟩, by decide +kernel, by decide +kernel, by decide +kernel, ⟨_, rfl⟩⟩

theorem witness_RegisterWriteActsByClass_acting : Fresh 0x09 (ask (leBytes 4 0x08010000 ++ leBytes 4 1)) node ∧ node.safe := by
  dsimp only [Fresh, State.safe, memorySafe, registersSafe]; and_intros <;> decide +kernel

theorem witness_GradesAndLevelsAreAsked_lowers :
    let w := after node [modPwr fun p => { p with level := .watch }]
    Fresh 0x1C (ask [0, 0, 0, 0]) w ∧ w.pwr.pend = none ∧ w.allows .keep = true ∧ levelCode .keep < levelCode w.pwr.level ∧
      w.tick.running = false ∧ w.tick.pass = false := by
  dsimp only [Fresh]; and_intros <;> decide +kernel

/-- A node with one sample of 25 °C in its open tick. -/
def cool (s : State) : State := after s [modEn fun e => { e with maxSum := 400, maxCount := 1 }]

theorem witness_LevelChangeTakesEffect_edges :
    let e := after (busy member) [modPwr fun p => { p with pend := some .watch, pendReady := true }]
    let w := after node [modPwr fun p => { p with level := .watch }]
    let hot := fun t : State => decide (16 * Int.ofNat (t.fld Reg.thLimits 23 16) ≤ signed 16 (t.fld Reg.thAvg 15 0))
    (e.safe ∧ e.dueEdge ≠ none ∧ e.pwr.pend = some .watch ∧ e.pwr.pendReady = true ∧ answers (.tickEdge ⟨0, 0, 0, 0⟩) (cool e) (fun t => !hot t) = true) ∧
    (member.safe ∧ member.dueEdge ≠ none ∧ member.tick.edges = true ∧ member.tick.metered = true ∧
      answers (.tickEdge ⟨0, 0, 0, 0⟩) member hot = true) ∧
    w.safe ∧ w.pwr.level ≠ .keep ∧ w.tick.edges = false ∧ answers .thermalIntervalEnd w hot = true := by
  dsimp only [State.safe, memorySafe, registersSafe]; and_intros <;> decide +kernel

theorem witness_LevelChangeTakesEffect_upward :
    PendsUpward (after node [modPwr fun p => { p with pend := some .watch }]) ∧ PendsUpward node ∧ ∃ t, step node = .next t :=
  ⟨fun l h _ => by cases h; decide, fun l h _ => by (cases h), _, rfl⟩

theorem witness_SnapshotAndResultReadsAnswer_far :
    let s := after (busy node) [.reg Reg.resPage0 0x047FFFFC, .reg Reg.resLen 16, .reg Reg.mvBase 0x01FFE000,
      modRes fun r => { r with since := true, newest := false }]
    Fresh 0x30 (ask (leBytes 4 0 ++ [8, 0, 0, 0])) s ∧ s.res.since = true ∧ s.fld Reg.resLen 15 0 = 16 ∧ regionOf (0x047FFFFC + 8 - 1) = none ∧
      Fresh 0x21 (ask [0, 0, 1, 0]) s ∧ s.pwr.level ≠ .keep ∧ s.safe ∧ regionOf ((s.stored Reg.mvBase).toNat + 4096) ≠ none := by
  dsimp only [Fresh, State.safe, memorySafe, registersSafe]; and_intros <;> decide +kernel

theorem witness_ReflexLatchesAndReleases_undone :
    let x : ReleaseNote := { latch := 1, fhalt := false, hseq := 0, replies := [(7, 0)] }
    let s := after node [.reg Reg.cmp0Ctrl 0xA0000000, .reg Reg.pmAinMode 0xFFFF, modRfx fun x => { x with raw := 1 }]
    let r := { s with cycle := { s.cycle with release := some x } }
    r.safe ∧ r.cmpRuns 0 = true ∧ r.rfx.raw.getLsbD 0 = true ∧ r.rfx.filt.getLsbD 0 = false ∧ r.cycle.release = some x ∧
      x.latch.getLsbD 0 = true ∧ r.rfx.latch.getLsbD 0 = false ∧ s.cycle.release = none := by
  dsimp only [State.safe, memorySafe, registersSafe]; and_intros <;> decide +kernel

theorem witness_BootRomStartsAndArms_released :
    let r := after State.reset [modPwr fun p => { p with phase := .inReset, resetLow := true }]
    let b := after State.reset [modPwr fun p => { p with phase := .inReset, brown := [.core] }]
    let i := after r [modPwr fun p => { p with brown := [.io] }]
    (r.safe ∧ r.pwr.brown = [] ∧ i.pwr.brown ≠ [] ∧ i.safe) ∧ b.safe ∧ b.pwr.vddPixLow = false ∧ b.pwr.phase = .inReset ∧ b.pwr.resetLow = false ∧
      b.pwr.strapsKept = true := by
  dsimp only [State.safe, memorySafe, registersSafe]; and_intros <;> decide +kernel

theorem witness_BistReports_firmware :
    let f := after State.reset [modPwr fun p => { p with phase := .firmware }]
    f.safe ∧ f.pwr.phase = .firmware ∧ f.pwr.bistRan = false ∧ f.keeperUp = false ∧ node.safe ∧ node.keeperUp = true ∧ node.pwr.bistRan = false := by
  dsimp only [State.safe, memorySafe, registersSafe]; and_intros <;> decide +kernel

theorem witness_BadRequestsAreTurnedAway_executing :
    let known := after node [modWindow .host (rememberReply 7 (replyPacket 0 1 7 0 [1]) ∘ touchTag 7)]
    let runs := after node [modWindow .host (touchTag 7)]
    let parked := after node [park 0x20 (ask [])]
    let wide := { ask [] with bcast := true }
    let rom := after State.reset [modPwr fun p => { p with phase := .romOnly }]
    let f := frame 2 1 0 (packet 2 0x60 7 [])
    (known.safe ∧ known.answers = true ∧ rowOf 1 (ask []) = some (.ping (ask [])) ∧
      (known.hp.winHost.find? fun e => e.tag == 7) = some ⟨7, some (replyPacket 0 1 7 0 [1])⟩) ∧
    (runs.safe ∧ runs.answers = true ∧ (runs.hp.winHost.find? fun e => e.tag == 7) = some ⟨7, none⟩) ∧
    (parked.safe ∧ parked.answers = true ∧ parked.hp.parked ≠ [] ∧ (parked.hp.winHost.find? fun e => e.tag == 7) = none) ∧
    (node.safe ∧ node.answers = true ∧ node.hp.parked = [] ∧ wide.bcast = true ∧ 0x02 ∉ broadcastOps ∧ rowOf 0x02 wide = some (.ident wide)) ∧
    (rom.safe ∧ rom.answers = true ∧ rom.keeperUp = false ∧ rom.hp.parked = [] ∧ 0x0D ∉ romOps ∧ rowOf 0x0D (ask []) = some (.memWr (ask []))) ∧
    (member.safe ∧ InSequence .up 1 f member ∧ member.answers = true ∧ member.isHead = false ∧ f.dst = member.link.addr ∧ f.dst ≠ 0x3F ∧
      field f.payload 0 1 = 0xA5 ∧ f.payload.length = 8 ∧ field f.payload 6 2 = (crc16 ((f.payload.drop 1).take 5)).toNat ∧
      0x60 ∉ knownOps ∧ member.hp.parked = [] ∧ member.hp.winRow = []) ∧
    (packet 0 0x60 7 []).length = 8 ∧ field (packet 0 0x60 7 []) 6 2 = (crc16 (((packet 0 0x60 7 []).drop 1).take 5)).toNat ∧ node.isHead = false := by
  dsimp only [InSequence, State.safe, memorySafe, registersSafe]; and_intros <;> decide +kernel

theorem witness_TokenHalvesPair_broadcast :
    let s := after member [modTick fun t => { t with num := 0 }]
    let f := { frame 0x3F 1 0 (List.replicate 16 0) with win := 500 }
    s.safe ∧ InSequence .up 2 f s ∧ InSequence .up 3 f s ∧ s.link.addr ≠ 0 ∧ f.dst = 0x3F ∧ s.link.addr.toNat ≤ 32 ∧ winPassed s f.win = false ∧
      s.link.halves = [] ∧ s.link.dnPort.waiting = [] := by
  dsimp only [InSequence, State.safe, memorySafe, registersSafe]; and_intros <;> decide +kernel

theorem witness_TickSourcesAct_armed :
    let e := after head [modTick fun t => { t with ending := .lastTick, startAt := some 9 }]
    e.safe ∧ e.tick.ending = .lastTick ∧ e.tick.sched = false ∧ e.pwr.pend = none ∧ e.tick.startAt = some 9 := by
  dsimp only [State.safe, memorySafe, registersSafe]; and_intros <;> decide +kernel

/-- A node in RUN with one sample of 25 °C in its open tick, whose two converters run with the given states, their edge bits set and the cross
check on. -/
def converting (a b : ConvSt) (due : Option CrossDue) : State := after (busy member) [.reg Reg.adcARegCtrl 0xA8000000, .reg (regCtrl .b) 0xA8000000,
  .reg Reg.adcAInjCtrl 0x80010001, .reg (injCtrl .b) 0x80010001, .reg Reg.adcCross 0x80000010, .reg Reg.adcAInjSeq 22,
  modAdc fun y => { y with a := a, b := b, crossDue := due },
  modEn fun e => { e with maxSum := 400, maxCount := 1 }]

theorem witness_TriggersStartSequences_trips :
    let idle := ConvSt.reset
    let inj := { idle with inj := some 0 }
    let tripped := fun s : State => after s [.reg Reg.cmp0Ctrl 0x80000000, .reg Reg.pmAinMode 0xFFFF, modRfx fun x => { x with raw := 1 }]
    let s := tripped (converting idle inj none)
    let r := tripped (converting { idle with reg := some ⟨0, false, false, 5, some 0⟩ } { idle with reg := some ⟨0, false, false, 5, none⟩ } none)
    let on := fun (c : Conv) (s : State) => (s.fld (injCtrl c) 3 0).testBit 0 && s.convRuns c && s.flag (injCtrl c) 31 &&
      !(injectedEntries s.stored c).isEmpty && (s.conv c).injClk.isNone
    s.safe ∧ s.cmpRuns 0 = true ∧ s.rfx.raw.getLsbD 0 = true ∧ s.rfx.filt.getLsbD 0 = false ∧ on .a s = true ∧ on .b s = true ∧
      s.adc.a.inj = none ∧ s.adc.b.inj ≠ none ∧ s.adc.a.reg = none ∧ s.adc.b.reg = none ∧
      r.safe ∧ on .a r = true ∧ r.adc.a.reg = some ⟨0, false, false, 5, some 0⟩ ∧ r.adcClock = 0 ∧
      r.adc.b.reg = some ⟨0, false, false, 5, none⟩ := by
  dsimp only [State.safe, memorySafe, registersSafe]; and_intros <;> decide +kernel

theorem witness_TriggersStartSequences_edges :
    let idle := ConvSt.reset
    let inj := { idle with inj := some 0 }
    let on := fun (c : Conv) (s : State) => s.convRuns c && s.flag (regCtrl c) 31 && s.flag (regCtrl c) 29
    let p := after (converting idle idle none) [.reg Reg.tickCtrl 2, modEng fun _ => { Eng.reset with image := some image },
      modTick fun t => { t with pass := true, entries := List.replicate 5 .done }]
    (∀ s ∈ [converting idle idle none, converting inj inj none, converting inj idle none], s.dueEdge = some (6, .missed) ∧
      on .a s = true ∧ on .b s = true ∧ s.crossOn = true ∧ s.stg.pend = none ∧ s.pwr.pend = none ∧ s.pwr.level ≠ .keep) ∧
    (∀ s ∈ [converting idle idle none, converting inj inj none],
      answers (.tickEdge ⟨0, 0, 0, 0⟩) s (fun t => t.pwr.level != .keep) = true) ∧
    (converting idle idle none).safe ∧ p.safe ∧ p.passOver = true ∧ p.stg.pend = none ∧ p.pwr.pend = none ∧
      answers (.freeRunPassEnd ⟨0, 0, 0, 0⟩) p (fun t => t.pwr.level != .keep) = true := by
  dsimp only [State.safe, memorySafe, registersSafe]; and_intros <;> decide +kernel

theorem witness_ConversionsDeliver_held :
    let idle := ConvSt.reset
    let inj := { idle with inj := some 0, held := some true }
    let first := converting inj inj (some ⟨5, none⟩)
    let second := converting inj { idle with reg := some ⟨0, false, false, 5, none⟩ } (some ⟨5, some 0⟩)
    let late := converting inj { idle with reg := some ⟨0, false, false, 5, none⟩ } (some ⟨5, some 99⟩)
    let gone := converting { idle with reg := some ⟨0, false, false, 5, none⟩ } inj (some ⟨5, some 99⟩)
    (∀ s ∈ [first, second, late], (s.conv .a).inj = some 0 ∧ s.flag Reg.mvCtrl 0 = false ∧ (injectedEntries s.stored .a).length ≤ 1 ∧
      (s.conv .a).reg = none ∧ (s.conv .a).held ≠ none ∧ regularEntries s.stored .a ≠ []) ∧
    first.safe ∧ first.adc.crossDue = some ⟨5, none⟩ ∧ second.safe ∧ second.adc.crossDue = some ⟨5, some second.adcClock⟩ ∧ second.adc.b.inj = none ∧
      second.adc.b.reg ≠ none ∧ late.adc.crossDue = some ⟨5, some 99⟩ ∧ late.adcClock ≠ 99 ∧
      gone.safe ∧ (gone.conv .a).inj = none ∧ (gone.conv .a).reg = some ⟨0, false, false, 5, none⟩ ∧ gone.adc.crossDue = some ⟨5, some 99⟩ ∧
      gone.flag Reg.mvCtrl 0 = false ∧ (first.conv .a).refnr = false ∧
      first.covered (first.convChannel .a) (first.convSmp .a) ⟨1000000000, 100⟩ = true := by
  dsimp only [State.safe, memorySafe, registersSafe]; and_intros <;> decide +kernel

theorem witness_MoverAndReferenceAct_pages :
    let idle := ConvSt.reset
    let s := fun k : Adc → Adc => after (busy member) [.reg Reg.mvCtrl 3, .reg Reg.mvBase 0x10000, .reg Reg.mvShape 0x20000, modAdc k]
    let inj := s fun y => { y with a := { idle with inj := some 0 } }
    let cross := s fun y => { y with b := { idle with reg := some ⟨0, true, false, 5, none⟩ } }
    let full := s fun y => { y with a := { idle with inj := some 0 }, lastB := some (0, true), live := 1024 }
    let off := after node [.reg Reg.mvCtrl 1, modAdc fun y => { y with a := { idle with inj := some 0 } }]
    let wait := s fun y => { y with closing := true, waiting := [(40, 0x80000007), (80, 0x81000008)], live := 1023 }
    (inj.safe ∧ (inj.conv .a).inj ≠ none ∧ inj.flag Reg.mvCtrl 0 = true ∧ inj.pagePowered = true ∧ inj.adc.closing = false ∧ inj.adc.live < 1024 ∧
      inj.adc.lastB = none ∧ inj.adc.crossDue = none) ∧
    (cross.safe ∧ (cross.conv .b).inj = none ∧ (cross.conv .b).reg = some ⟨0, true, false, 5, none⟩ ∧ cross.flag Reg.mvCtrl 1 = true ∧
      0x20000 + 8 ≤ (0x10000 : Nat) ∨ 0x10000 + 8192 ≤ (0x20000 : Nat)) ∧
    (full.safe ∧ full.adc.lastB = some (full.adcClock, true) ∧ full.adc.live = 1024 ∧ full.adc.closing = false ∧ full.pagePowered = true) ∧
    (off.safe ∧ (off.conv .a).inj ≠ none ∧ off.flag Reg.mvCtrl 0 = true ∧ off.pagePowered = false) ∧
    wait.safe ∧ wait.adc.closing = true ∧ wait.pagePowered = true ∧ wait.adc.live ≤ 1024 ∧ wait.adc.waiting.length < 16 ∧
      1024 < wait.adc.live + wait.adc.waiting.length ∧ (wait.adc.waiting.map fun e => e.1).Nodup ∧ wait.adc.lastB = none := by
  dsimp only [State.safe, memorySafe, registersSafe]; and_intros <;> decide +kernel

/-- An image with one entry of one NOP, for 0x00020000. -/
def modelImage : List Byte := [0x4D494B53, 0x00400001, 9, 96, 1858756641, 1000, 0x00010101, 64, 0, 0, 0, 0, 0, 0, 0, 0, 0x00300004, 10,
  0x00020050, 1, 0x00040000, 0, 0, 0].flatMap fun w => leBytes 4 w
/-- The memory cells of bytes from an address on. -/
def cellsOf (a : Nat) (bs : List Byte) : List Host.Cell :=
  ((List.range bs.length).zip bs).filterMap fun x => if x.2 = 0 then none else some (a + x.1, x.2)

set_option maxRecDepth 20000 in
theorem witness_StandingModelActs_goes :
    let head := [0x4D574B53, 96, 1098905960, 0x20000, 0x30000, 0, 0, 0].flatMap fun w => leBytes 4 w
    let s := { after node [.reg Reg.wmProgSrc 0x10000] with mem := cellsOf 0x10000 (head ++ modelImage) }
    let j := after node [modWm fun w => { w with job := some { bytes := [1, 2], ok := true } }]
    s.safe ∧ s.wm.job = none ∧ (s.stored Reg.wmProgSrc).toNat = 0x10000 ∧ (s.rd32 0x10004).toNat = 96 ∧ s.rd32 0x10000 = 0x4D574B53 ∧
      s.rdBytes 0x10020 96 = modelImage ∧ s.rd32 0x10008 = crc32 modelImage ∧ modelImageOk (withModel s 0x20000 modelImage) 0x20000 96 = true ∧
      answers .go s (fun t => t.wm.job.any fun j => j.ok) = true ∧
      j.safe ∧ j.wm.job = some { bytes := [1, 2], ok := true } := by
  dsimp only [State.safe, memorySafe, registersSafe]; and_intros <;> decide +kernel

/-- A unit at work on an item of a command with some words, in a node in RUN that does not trace. -/
def working (unit : Nat) (d : Desc) (i : Item) (blocks : List Scratch) : State :=
  after (busy member) [modDsp fun x => { x with descs := [d], active := [(unit, i)], nextId := 1, scratch := blocks }]
/-- Three tensors of 4 rows and 8 columns of FP32 or of format f. -/
def tensors (f : Word) : List Word :=
  [0x10010000, f ||| 4, 8, 0, 0x10020000, f ||| 4, 8, 0, 0x10030000, f ||| 4, 8, 0]

theorem witness_UnitsWork_writes :
    let d := { mkDesc .ve (run 2) ([header 0x32 15] ++ tensors 0) 9 1 4 with next := 1 }
    let i : Item := { desc := 0, tile := 0, typ := 9 }
    let s := working 64 d i []
    s.safe ∧ ((s.dsp.active.find? fun x => x.1 == 64).bind fun x => (s.dsp.desc? x.2.desc).map fun d => (x.2, d)) = some (i, d) ∧
      s.flag Reg.trCtrl 0 = false ∧
      ∃ y rows cols code, itemOut s d i 0 = some (y, rows, cols, code) ∧ rows = [0, 1, 2, 3] ∧ cols = List.range 8 ∧ Placed y rows cols := by
  refine ⟨?_, ?_, ?_, _, _, _, _, rfl, ?_, ?_, ?_⟩ <;> dsimp only [Placed, State.safe, memorySafe, registersSafe] <;> decide +kernel

theorem witness_UnitsWork_blocks :
    let m := { mkDesc .me0 (run 0) ([header 0x10 20] ++ tensors 0 ++ [0, 0, 0, 0, 0, 0x00040008, 0]) 0 2 4 with kSplit := 2, kChunk := 4, next := 2 }
    let mi : Item := { desc := 0, tile := 1, typ := 0 }
    let ms := working 0 m mi [{ desc := 0, block := 0, addr := 0x00100000, size := 512, chunks := 1, sums := [[]] }]
    let a := { mkDesc .me0 (run 0) ([header 0x12 22] ++ tensors 0 ++ [0x10040000, 4, 8, 0, 0x01000008, 0, 0, 0, 0]) 3 1 1 with keys := 4, next := 1 }
    let ai : Item := { desc := 0, tile := 0, typ := 3 }
    let as' := working 0 a ai [{ desc := 0, block := 0, addr := 0x00100000, size := attnBlock a.words, chunks := 0, sums := [] }]
    let r := { mkDesc .ve (run 2) ([header 0x20 9] ++ (tensors 0).take 4 ++ [0x10020000, 0x10030000, 8, 0]) 6 1 1 with left := 2, next := 1 }
    let ri : Item := { desc := 0, tile := 0, typ := 6 }
    (ms.safe ∧ scratchBase ms m mi = 0x00100000 ∧ 1 < m.kSplit ∧ inOneRange (partialAddr m 0x00100000 1 0 0) 128 = true ∧ itemShape m.words = (4, 8) ∧
      blockRows m 0 = [0, 1, 2, 3] ∧ (blockCols m 0).length = 8 ∧ (∃ b ∈ ms.dsp.scratch, b.desc = m.id ∧ b.block = 0 ∧ b.chunks + 1 = m.kSplit)) ∧
    (as'.safe ∧ scratchBase as' a ai = 0x00100000 ∧ inOneRange 0x00100000 (attnBlock a.words) = true ∧ a.keys ≤ paddedKeys a.words ∧
      blockQueries a 0 = [0] ∧ a.typ ≠ 2) ∧
    (working 64 r ri []).safe ∧ vectorRows r 0 = [0] ∧ routeRanks r.words = 1 ∧ inOneRange 0x10020000 4 = true ∧ inOneRange 0x10030000 2 = true ∧
      1 < r.left := by
  dsimp only [State.safe, memorySafe, registersSafe]; and_intros <;> decide +kernel

/-- A token of a node for expert 0, with its row of 64 bytes. -/
def token (src tok : Nat) : Token := { tag := tagWord src tok 0 0, scale := 3, row := List.replicate 64 (BitVec.ofNat 8 (tok + 1)) }
/-- A control word with its block of 64 bytes. -/
def controlWord (kind total : Nat) : Token :=
  { tag := place 1 31 26 ||| place 31 12 8 ||| place kind 7 0, scale := 0, row := (controlBlock total 0 [] ++ List.replicate 64 0).take 64 }
/-- A segment of a node. -/
def segment (src : Nat) (total : Option Nat) : Seg := { src := src, total := total, pairHdr := 8, counts := [], got := 0 }
/-- The inbound traffic of layer 0. -/
def traffic (kind : Nat) (g : Seg) (last : Option Nat) : Inbound :=
  { layer := 0, kind := kind, fc := 0, recv := 0x00300000, bytes := 4096, shapeOff := 256, win := 500, segs := [g, segment 3 last], arrived := [] }
/-- The half that waits for its other half. -/
def waiting (ts : List Token) : Half :=
  { isA := false, src := 1, pair := 9, win := 600, payload := tokBPayload 0 64 ts, port := .up, units := 1 }
/-- A node whose XE awaits traffic of layer 0. -/
def awaiting (b : Inbound) (bins : List (Nat × Nat × Nat)) (ts : List Token) : State :=
  after (busy member) [.mem 0x10000040 (mapWords.flatMap wordBytes), modTick fun t => { t with num := 0 },
    modLink fun l => { l with halves := [waiting ts] },
    modXe fun x => { x with bins := bins, layers := [{ LayerSt.empty 0 with sent := [⟨5, 0, 0, 1, 16, .sent⟩] }], inbound := some b }]
/-- The other half. -/
def arriving (win : Nat) (ts : List Token) : RxFrame :=
  { frame 2 1 0 (ts.flatMap fun t => t.row) with aux := 9, win := BitVec.ofNat 32 win }

theorem witness_ExchangeActs_pairs :
    let meets := fun (b : Inbound) (bins : List (Nat × Nat × Nat)) (win : Nat) (ts : List Token) =>
      let s := awaiting b bins ts
      let f := arriving win ts
      (s.port .up).up && goodLen 2 f.payload.length && f.seq == (s.port .up).rxExp && f.dst == s.link.addr && !winPassed s f.win &&
        (s.link.halves.find? fun h => h.isA != true && h.src == f.src && h.pair == f.aux) == some (waiting ts) && s.xe.inbound == some b &&
        (s.layer? b.layer).isSome && (b.segs.find? fun g => g.src == f.src.toNat).isSome && s.xe.pairs.isEmpty &&
        tokensOf true f (waiting ts) == ts
    (meets (traffic 0 (segment 1 none) none) [] 500 [token 1 5, token 1 6] = true ∧ meets (traffic 0 (segment 1 none) none) [] 500 [token 1 5] = true ∧
      meets (traffic 0 (segment 1 none) none) [] 500 [controlWord 2 7] = true ∧ meets (traffic 0 (segment 1 none) none) [] 500 [controlWord 1 7] = true ∧
      meets (traffic 0 (segment 1 none) none) [(0, 0, 4)] 500 [token 1 5] = true ∧ meets (traffic 0 (segment 1 (some 0)) none) [] 510 [token 1 5] = true ∧
      meets (traffic 0 (segment 1 (some 0)) none) [] 500 [token 1 5] = true ∧ meets (traffic 0 (segment 1 none) none) [] 500 [token 2 5] = true) ∧
    (meets (traffic 1 (segment 1 (some 3)) none) [] 500 [token 1 5] = true ∧ meets (traffic 1 (segment 1 none) none) [] 500 [token 1 5] = true ∧
      meets (traffic 1 (segment 1 none) none) [] 500 [controlWord 1 7] = true) ∧
    (meets (traffic 2 (segment 1 none) none) [] 500 [token 2 5] = true ∧ meets (traffic 2 (segment 1 none) none) [] 500 [token 1 5] = true ∧
      meets (traffic 2 (segment 1 none) none) [] 500 [controlWord 3 7] = true) ∧
    meets (traffic 0 (segment 1 (some 1)) (some 0)) [] 500 [token 1 5] = true ∧ (awaiting (traffic 0 (segment 1 none) none) [] []).safe := by
  dsimp only [State.safe, memorySafe, registersSafe]; and_intros <;> decide +kernel

theorem witness_ExchangeActs_verdicts :
    let s := awaiting (traffic 0 (segment 1 none) none) [] []
    let full := awaiting (traffic 0 (segment 1 none) none) [(0, 0, 4)] []
    let check := fun l : Layer => l.experts.length == 1 && l.w == 64 && (outExpert s l 1 (token 1 5)).isSome &&
      (outExpert s l 1 (token 2 5)).isNone && !binsFull s l 1 [token 1 5] && binsFull full l 1 [token 1 5] &&
      (l.resident 2 0).any fun e => e.slots == 4 && e.bin == 0x00100000
    (s.layer? 0).any check = true ∧
      controlFits (traffic 0 (segment 1 none) none) (segment 1 none) (controlWord 2 7) = true ∧
      controlFits (traffic 0 (segment 1 none) none) (segment 1 none) (controlWord 1 7) = false ∧
      (segment 3 none).complete 0 = false ∧ (segment 3 (some 0)).complete 0 = true ∧ (segment 1 (some 0)).complete 0 = true := by
  dsimp only; and_intros <;> decide +kernel

theorem witness_ExchangeActs_placed :
    let x := [0x10010000, 0x00000004, 0x00000040, 0, 0x00200000]
    let s := fun ws : List Word => after (busy member) [.mem 0x10000040 (mapWords.flatMap wordBytes), listing 3 ws]
    let sort := s ([header 0x22 9] ++ x ++ [0x00210000, 0, 0x00220000])
    let co := s ([header 0x24 15] ++ x.take 4 ++ x.take 4 ++ x.take 4 ++ [0x00200000, 0x00000100])
    (∀ y ∈ ([(sort, 0x22), (co, 0x24)] : List (State × Nat)), y.1.eng.xe = some (run 3) ∧ mayIssue y.1 .xe y.2 = true ∧
      ((y.1.layer? (xeLayer (y.1.command (run 3)))).map fun l => (l.w, l.ranks)) = some (64, 1) ∧ smHolds y.1 (y.1.command (run 3)) = false) ∧
    (sort.safe ∧ inOneRange 0x00210000 (wireTag 4 64 4) = true ∧ 0x00210000 + wireTag 4 64 4 ≤ 0x00220000 ∧ inOneRange 0x00220000 128 = true) ∧
    co.safe ∧ commandExtent co [trefAt (co.command (run 3)) 1] = 4 ∧ Placed (trefAt (co.command (run 3)) 1) (List.range 4) (List.range 64) ∧
      inOneRange 0x00200400 4 = true := by
  dsimp only [Placed, State.safe, memorySafe, registersSafe]; and_intros <;> decide +kernel

end Sys2Proof.Tests
end

section
/-! STAGE_WR (R216, R217, R236, R237): what a masked write does to the bank and to the prospective words, what a list of
them does, and which entry stops a packet. -/

namespace Sys2Proof.Machine

/-! The bank as a map of shadows. -/

theorem shadowOf_cons (b : Nat) (x : Word) (l : List (Nat × Word)) (a : Nat) :
    shadowOf ((b, x) :: l) a = if b = a then some x else shadowOf l a := by
  by_cases h : b = a
  · rw [if_pos h, shadowOf, List.find?_cons_of_pos (by simpa using h)]
    rfl
  · rw [if_neg h, shadowOf, List.find?_cons_of_neg (by simpa using h), shadowOf]

theorem shadowOf_putShadow_same (a : Nat) (w : Word) (l : List (Nat × Word)) : shadowOf (putShadow a w l) a = some w := by
  induction l with
  | nil => simp [putShadow, shadowOf_cons]
  | cons e t ih =>
    obtain ⟨b, x⟩ := e
    unfold putShadow
    split
    · simp [shadowOf_cons]
    · split
      · simp [shadowOf_cons]
      · rename_i hne
        rw [shadowOf_cons, if_neg (Ne.symm hne), ih]

theorem shadowOf_putShadow_ne {a b : Nat} (h : a ≠ b) (w : Word) (l : List (Nat × Word)) :
    shadowOf (putShadow a w l) b = shadowOf l b := by
  induction l with
  | nil => simp [putShadow, shadowOf_cons, h]
  | cons e t ih =>
    obtain ⟨c, x⟩ := e
    unfold putShadow
    split
    · rw [shadowOf_cons, if_neg h]
    · split
      · rename_i hac
        rw [shadowOf_cons, if_neg h, shadowOf_cons, if_neg (hac ▸ h)]
      · rw [shadowOf_cons, ih, shadowOf_cons]

/-! A masked write into the bank. -/

/-- The state with another staging bank. -/
def State.withBank (s : State) (bank : List (Nat × Word)) : State :=
  { s with units := { s.units with stg := { s.stg with bank := bank } } }

theorem stageMasked_run (a : Nat) (mask v : Word) (s : State) :
    (stageMasked a mask v).run s =
      s.withBank (putShadow a (masked (s.prospective a) (mask &&& stagedMask a) v &&& stagedMask a) s.stg.bank) := rfl

/-- A prospective word rests on the staging block and on the live word alone. -/
theorem prospective_congr {s t : State} (hstg : t.stg = s.stg) {a : Nat} (hreg : t.stored a = s.stored a) :
    t.prospective a = s.prospective a := by
  unfold State.prospective
  rw [hstg, hreg]

/-- Outside the staged fields a prospective word is the live one (R238). -/
theorem getLsbD_prospective_unstaged {s : State} {a n : Nat} (h : (stagedMask a).getLsbD n = false) :
    (s.prospective a).getLsbD n = (s.stored a).getLsbD n := by
  unfold State.prospective
  rw [getLsbD_masked, if_neg (by simp [h])]

theorem prospective_withBank_put_same (s : State) (a : Nat) (w : Word) :
    (s.withBank (putShadow a w s.stg.bank)).prospective a = masked (s.stored a) (stagedMask a) w := by
  have h : shadowOf (s.withBank (putShadow a w s.stg.bank)).stg.bank a = some w := shadowOf_putShadow_same a w _
  unfold State.prospective
  rw [h]
  rfl

theorem prospective_withBank_put_ne {a b : Nat} (h : a ≠ b) (s : State) (w : Word) :
    (s.withBank (putShadow a w s.stg.bank)).prospective b = s.prospective b := by
  have hs : shadowOf (s.withBank (putShadow a w s.stg.bank)).stg.bank b = shadowOf s.stg.bank b := shadowOf_putShadow_ne h w _
  unfold State.prospective
  rw [hs]
  rfl

/-- A bit of a mask that lies inside another is a bit of that other. -/
theorem getLsbD_of_subset {m k : Word} (h : m &&& ~~~k = 0) {n : Nat} (hn : m.getLsbD n = true) : k.getLsbD n = true := by
  rw [← and_held h, BitVec.getLsbD_and, Bool.and_eq_true] at hn
  exact hn.2

/-- A masked write inside the staged fields replaces the prospective word's bits under its mask (R237). -/
theorem stageMasked_prospective_same {a : Nat} {mask : Word} (h : mask &&& ~~~stagedMask a = 0) (v : Word) (s : State) :
    ((stageMasked a mask v).run s).prospective a = masked (s.prospective a) mask v := by
  rw [stageMasked_run, prospective_withBank_put_same, and_held h]
  apply BitVec.eq_of_getLsbD_eq
  intro n _
  cases hk : (stagedMask a).getLsbD n with
  | true => simp [hk]
  | false =>
    have hm : ¬mask.getLsbD n = true := fun hm => by simp [getLsbD_of_subset h hm] at hk
    simp [hk, hm, getLsbD_prospective_unstaged hk]

theorem stageMasked_prospective_ne {a b : Nat} (h : a ≠ b) (mask v : Word) (s : State) :
    ((stageMasked a mask v).run s).prospective b = s.prospective b := prospective_withBank_put_ne h s _

/-- A masked write touches its register and no other (R237). -/
theorem stageMasked_shadow_isSome (a b : Nat) (mask v : Word) (s : State) :
    (shadowOf ((stageMasked a mask v).run s).stg.bank b).isSome = true ↔ a = b ∨ (shadowOf s.stg.bank b).isSome = true := by
  rw [stageMasked_run]
  change (shadowOf (putShadow a _ s.stg.bank) b).isSome = true ↔ _
  by_cases h : a = b
  · subst h
    simp [shadowOf_putShadow_same]
  · simp [shadowOf_putShadow_ne h, h]

/-! The entries of a packet, in order. -/

/-- One entry of STAGE_WR: a masked write, unless its MASK is 0. -/
def stageEntry (e : Nat × Word × Word) : Prog := Prog.when (e.2.1 != 0) (stageMasked e.1 e.2.1 e.2.2)

/-- Whether an entry writes a register. -/
def writesTo (a : Nat) (e : Nat × Word × Word) : Bool := decide (e.1 = a) && decide (e.2.1 ≠ 0)

/-- Whether an entry stops its packet (R217). -/
def BadStaging (e : Nat × Word × Word) : Prop := stagedMask e.1 = 0 ∨ e.2.1 &&& ~~~stagedMask e.1 ≠ 0

theorem writesTo_iff {a : Nat} {e : Nat × Word × Word} : writesTo a e = true ↔ e.1 = a ∧ e.2.1 ≠ 0 := by
  rw [writesTo, Bool.and_eq_true, decide_eq_true_iff, decide_eq_true_iff]

theorem stageEntry_of_mask_zero {e : Nat × Word × Word} (h : e.2.1 = 0) (s : State) : (stageEntry e).run s = s := by
  rw [stageEntry, run_when, if_neg (bne_iff_ne.not.mpr (not_not.mpr h))]

theorem stageEntry_of_mask_ne {e : Nat × Word × Word} (h : e.2.1 ≠ 0) (s : State) :
    (stageEntry e).run s = (stageMasked e.1 e.2.1 e.2.2).run s := by
  rw [stageEntry, run_when, if_pos (bne_iff_ne.mpr h)]

theorem stageEntry_prospective {e : Nat × Word × Word} (h : ¬BadStaging e) (a : Nat) (s : State) :
    ((stageEntry e).run s).prospective a =
      if writesTo a e then masked (s.prospective a) e.2.1 e.2.2 else s.prospective a := by
  have hmask : e.2.1 &&& ~~~stagedMask e.1 = 0 := not_not.mp (not_or.mp h).2
  simp only [writesTo_iff]
  by_cases h0 : e.2.1 = 0
  · rw [stageEntry_of_mask_zero h0, if_neg fun hw => hw.2 h0]
  · rw [stageEntry_of_mask_ne h0]
    by_cases ha : e.1 = a
    · subst ha
      rw [stageMasked_prospective_same hmask, if_pos ⟨rfl, h0⟩]
    · rw [stageMasked_prospective_ne ha, if_neg fun hw => ha hw.1]

theorem stageEntry_shadow_isSome (e : Nat × Word × Word) (a : Nat) (s : State) :
    (shadowOf ((stageEntry e).run s).stg.bank a).isSome = true ↔
      writesTo a e = true ∨ (shadowOf s.stg.bank a).isSome = true := by
  rw [writesTo_iff]
  by_cases h0 : e.2.1 = 0
  · rw [stageEntry_of_mask_zero h0, or_iff_right fun hw => hw.2 h0]
  · rw [stageEntry_of_mask_ne h0, stageMasked_shadow_isSome, and_iff_left h0]

/-- Good entries, in order: each replaces the bits under its mask of its own register's prospective word. -/
theorem stageEntries_prospective {l : List (Nat × Word × Word)} (h : ∀ e ∈ l, ¬BadStaging e) (a : Nat) (s : State) :
    ((Prog.each l stageEntry).run s).prospective a =
      (l.filter (writesTo a)).foldl (fun w e => masked w e.2.1 e.2.2) (s.prospective a) := by
  induction l generalizing s with
  | nil => rfl
  | cons e t ih =>
    rw [run_each_cons, ih (fun x hx => h x (List.mem_cons_of_mem _ hx)), stageEntry_prospective (h e List.mem_cons_self),
      List.filter_cons]
    split <;> rfl

/-- A register is touched after some entries when it was before, or an entry writes it. -/
theorem stageEntries_shadow_isSome (l : List (Nat × Word × Word)) (a : Nat) (s : State) :
    (shadowOf ((Prog.each l stageEntry).run s).stg.bank a).isSome = true ↔
      (shadowOf s.stg.bank a).isSome = true ∨ l.filter (writesTo a) ≠ [] := by
  induction l generalizing s with
  | nil => simp
  | cons e t ih =>
    rw [run_each_cons, ih, stageEntry_shadow_isSome, List.filter_cons]
    by_cases h : writesTo a e = true <;> simp [h]

/-! What staging leaves alone. -/

/-- Two states that differ in nothing but their staging banks. -/
def OnlyBank (s t : State) : Prop := ∃ bank, t = s.withBank bank

theorem OnlyBank.refl (s : State) : OnlyBank s s := ⟨s.stg.bank, rfl⟩

theorem stageEntry_keeps_onlyBank (s : State) (e : Nat × Word × Word) : (stageEntry e).Keeps (OnlyBank s) := by
  refine keeps_when fun _ t ht => ?_
  obtain ⟨bank, rfl⟩ := ht
  exact ⟨_, rfl⟩

/-- Staging changes the bank and nothing else. -/
theorem stageEntries_onlyBank (l : List (Nat × Word × Word)) (s : State) : OnlyBank s ((Prog.each l stageEntry).run s) :=
  keeps_each (fun e _ => stageEntry_keeps_onlyBank s e) s (OnlyBank.refl s)

/-! Which entry stops a packet. -/

theorem stageFailure_append {l : List (Nat × Word × Word)} (h : ∀ x ∈ l, ¬BadStaging x) (m : List (Nat × Word × Word)) :
    stageFailure (l ++ m) = stageFailure m := by
  induction l with
  | nil => rfl
  | cons e t ih =>
    obtain ⟨haddr, hmask⟩ := not_or.mp (h e List.mem_cons_self)
    rw [List.cons_append, stageFailure, if_neg haddr, if_neg hmask, ih fun x hx => h x (List.mem_cons_of_mem _ hx)]

/-- Good entries stop no packet. -/
theorem stageFailure_eq_none {l : List (Nat × Word × Word)} (h : ∀ x ∈ l, ¬BadStaging x) : stageFailure l = none := by
  simpa [stageFailure] using stageFailure_append h []

/-- The first bad entry stops the packet: BAD_ADDR before BAD_PARAM (R217). -/
theorem stageFailure_eq_some {l m : List (Nat × Word × Word)} {e : Nat × Word × Word} (h : ∀ x ∈ l, ¬BadStaging x) (he : BadStaging e) :
    stageFailure (l ++ e :: m) = some (if stagedMask e.1 = 0 then St.badAddr else St.badParam) := by
  rw [stageFailure_append h, stageFailure]
  by_cases haddr : stagedMask e.1 = 0
  · rw [if_pos haddr, if_pos haddr]
  · rw [if_neg haddr, if_neg haddr, if_pos (he.resolve_left haddr)]

/-! The packet. -/

/-- A payload that is not 1 to 341 entries of 12 bytes (R216). -/
def BadStageForm (r : Req) : Prop := r.payload.length = 0 ∨ r.payload.length % 12 ≠ 0 ∨ 4092 < r.payload.length

theorem opStageWr_of_badForm {r : Req} (h : BadStageForm r) (s : State) : opStageWr s r = .now St.badParam [] .skip := by
  rw [BadStageForm, List.length_eq_zero_iff] at h
  rw [opStageWr, if_pos h]
  rfl

theorem opStageWr_of_failure {r : Req} (h : ¬BadStageForm r) {st : Nat} (hf : stageFailure (stageEntries r.payload) = some st)
    (s : State) : opStageWr s r = .now st [] .skip := by
  rw [BadStageForm, List.length_eq_zero_iff] at h
  rw [opStageWr, if_neg h, hf]
  rfl

theorem opStageWr_of_no_failure {r : Req} (h : ¬BadStageForm r) (hf : stageFailure (stageEntries r.payload) = none) (s : State) :
    opStageWr s r = .now St.ok [] (Prog.each (stageEntries r.payload) stageEntry) := by
  rw [BadStageForm, List.length_eq_zero_iff] at h
  rw [opStageWr, if_neg h, hf]
  rfl

theorem Quiet.stg_eq {l : List Nat} {s t : State} (h : Quiet l s t) : t.stg = s.stg := by
  have hunits := congrArg Units.stg h.1
  exact hunits

theorem Quiet.prospective_eq {s t : State} (h : Quiet [] s t) (a : Nat) : t.prospective a = s.prospective a :=
  prospective_congr h.stg_eq (h.2.1 a List.not_mem_nil)

/-- Registers and memory hold what they held, and no unit but the ports and the staging block changed. -/
def StageFrame (s t : State) : Prop :=
  regsBut [] s t ∧ sameMem s t ∧ onlyPorts { s with units := { s.units with stg := t.stg } } t

theorem Quiet.stageFrame {s t : State} (h : Quiet [] s t) : StageFrame s t := by
  refine ⟨h.2.1, h.mem, ?_⟩
  rw [h.stg_eq]
  exact h.1

/-- A change of the bank between two quiet steps leaves the rest of the node alone. -/
theorem OnlyBank.stageFrame {s v u t : State} (hv : Quiet [] s v) (hb : OnlyBank v u) (ht : Quiet [] u t) : StageFrame s t := by
  obtain ⟨bank, rfl⟩ := hb
  have hbank : Quiet [] (s.withBank bank) (v.withBank bank) := by
    refine ⟨?_, hv.2.1, hv.2.2⟩
    have hu := hv.1
    unfold onlyPorts at hu ⊢
    exact congrArg (fun x : Units => { x with stg := { x.stg with bank := bank } }) hu
  have hq := hbank.join ht
  have hstg : t.stg = (s.withBank bank).stg := hq.stg_eq
  refine ⟨hq.2.1, hq.mem, ?_⟩
  rw [hstg]
  exact hq.1

theorem OnlyBank.sameWindows {s t : State} (h : OnlyBank s t) : sameWindows s t := by
  obtain ⟨bank, rfl⟩ := h
  exact sameWindows_of rfl rfl rfl

/-- The bank has taken some entries in order: the pending set stands, each entry has replaced the bits under its mask of its
register's prospective word, and its register is touched. -/
def Staged (l : List (Nat × Word × Word)) (s t : State) : Prop :=
  t.stg.pend = s.stg.pend ∧ ∀ a,
    t.prospective a = (l.filter (writesTo a)).foldl (fun w e => masked w e.2.1 e.2.2) (s.prospective a) ∧
      ((shadowOf t.stg.bank a).isSome = true ↔ (shadowOf s.stg.bank a).isSome = true ∨ l.filter (writesTo a) ≠ [])

theorem stageEntries_staged {l : List (Nat × Word × Word)} (h : ∀ e ∈ l, ¬BadStaging e) (s : State) :
    Staged l s ((Prog.each l stageEntry).run s) := by
  refine ⟨?_, fun a => ⟨stageEntries_prospective h a s, stageEntries_shadow_isSome l a s⟩⟩
  obtain ⟨bank, hbank⟩ := stageEntries_onlyBank l s
  rw [hbank]
  rfl

/-- Quiet steps before and after do not matter to what is staged. -/
theorem Staged.of_quiet {l : List (Nat × Word × Word)} {s v u t : State} (h : Staged l v u) (hv : Quiet [] s v) (ht : Quiet [] u t) :
    Staged l s t := by
  unfold Staged at h ⊢
  simpa only [ht.stg_eq, hv.stg_eq, ht.prospective_eq, hv.prospective_eq] using h

/-- A STAGE_WR that answers a status and does nothing else. -/
theorem stageWr_just {r : Req} {s : State} {st : Nat} (h : Fresh 0x10 r s) (hop : opStageWr s r = .now st [] .skip) :
    Completes (.stageWr r) s fun t => Answered 0x10 r t st [] ∧ t.stg = s.stg ∧ StageFrame s t := by
  obtain ⟨t, ht, hans, hq⟩ := serve_just h hop
  rw [replyRegs_nil h (by decide)] at hq
  exact ⟨t, ht, hans, hq.stg_eq, hq.stageFrame⟩

/-- A STAGE_WR that no entry stops answers OK, and good entries stand in the bank. -/
theorem stageWr_stages {r : Req} {s : State} (h : Fresh 0x10 r s)
    (hop : opStageWr s r = .now St.ok [] (Prog.each (stageEntries r.payload) stageEntry)) :
    Completes (.stageWr r) s fun t => Answered 0x10 r t St.ok [] ∧
      ((∀ e ∈ stageEntries r.payload, ¬BadStaging e) → Staged (stageEntries r.payload) s t) ∧ StageFrame s t := by
  have hb := stageEntries_onlyBank (stageEntries r.payload) (s.touched r)
  obtain ⟨t, ht, hans, hq⟩ := serve_answers h hop hb.sameWindows
  rw [replyRegs_nil h (by decide)] at hq
  exact ⟨t, ht, hans, fun hgood => (stageEntries_staged hgood _).of_quiet (quiet_touched s r) hq,
    hb.stageFrame (quiet_touched s r) hq⟩

/-- Settles O5: a form that is wrong or a first bad entry stops the packet, and otherwise the bank takes the entries one by one. -/
theorem stageWriteFillsBank : Obligations.StageWriteFillsBank := by
  unfold Obligations.StageWriteFillsBank
  intro r s hfresh entries bad badForm
  by_cases hform : BadStageForm r
  · obtain ⟨t, ht, hans, hstg, hframe⟩ := stageWr_just hfresh (opStageWr_of_badForm hform s)
    exact ⟨t, ht, fun _ => ⟨hans, hstg⟩, fun hn => absurd hform hn, fun hn => absurd hform hn, hframe⟩
  · cases hfail : stageFailure (stageEntries r.payload) with
    | some st =>
      obtain ⟨t, ht, hans, hstg, hframe⟩ := stageWr_just hfresh (opStageWr_of_failure hform hfail s)
      refine ⟨t, ht, fun hbad => absurd hbad hform, fun _ l e m hsplit hl he => ?_, fun _ hgood => ?_, hframe⟩
      · have hfirst := (congrArg stageFailure hsplit).symm.trans hfail
        rw [stageFailure_eq_some hl he, Option.some.injEq] at hfirst
        rw [hfirst]
        exact ⟨hans, hstg⟩
      · exact absurd ((stageFailure_eq_none hgood).symm.trans hfail) nofun
    | none =>
      obtain ⟨t, ht, hans, hstaged, hframe⟩ := stageWr_stages hfresh (opStageWr_of_no_failure hform hfail s)
      refine ⟨t, ht, fun hbad => absurd hbad hform, fun _ l e m hsplit hl he => ?_, fun _ hgood => ⟨hans, hstaged hgood⟩, hframe⟩
      have hfirst := (congrArg stageFailure hsplit).symm.trans hfail
      rw [stageFailure_eq_some hl he] at hfirst
      exact absurd hfirst nofun

end Sys2Proof.Machine
end

section
/-! RECALL (R238, R260, R269, R270): the count of a W1C flag, the bank that the entries of a settings copy make, the events of
the entries that are skipped, and what recalling leaves alone. -/

namespace Sys2Proof.Machine

/-! A field of a register after it is set, and the counter of a flag (R13). -/

theorem testBit_bits (w : Word) (hi lo n : Nat) :
    (bits w hi lo).testBit n = (decide (n < hi + 1 - lo) && w.getLsbD (lo + n)) := by
  rw [bits, Nat.testBit_mod_two_pow, Nat.testBit_div_two_pow, Nat.add_comm lo n]
  rfl

/-- A field whose bits all read back holds what it was set to, as far as its width goes. -/
theorem setFld_fld {a hi lo v : Nat} {s : State} (h : s.safe) (hhi : hi < 32)
    (hheld : place (2 ^ (hi + 1 - lo) - 1) hi lo &&& ~~~heldMask a = 0) :
    ((setFld a hi lo v).run s).fld a hi lo = v % 2 ^ (hi + 1 - lo) := by
  apply Nat.eq_of_testBit_eq
  intro n
  rw [State.fld, testBit_bits, Nat.testBit_mod_two_pow]
  by_cases hn : n < hi + 1 - lo
  · have hbit : (heldMask a).getLsbD (lo + n) = true := getLsbD_of_subset hheld (by
      rw [getLsbD_place _ _ _ _ (by omega), Nat.testBit_two_pow_sub_one]
      simp [hn])
    rw [setFld_bit h (by omega), if_pos (by omega), hbit, Nat.add_sub_cancel_left, Bool.and_true]
  · simp [hn]

/-- A saturating field whose bits all read back adds an amount, up to its largest value. -/
theorem addSat_fld {a hi lo n : Nat} {s : State} (h : s.safe) (hhi : hi < 32)
    (hheld : place (2 ^ (hi + 1 - lo) - 1) hi lo &&& ~~~heldMask a = 0) :
    ((addSat a hi lo n).run s).fld a hi lo = min (s.fld a hi lo + n) (2 ^ (hi + 1 - lo) - 1) := by
  have hpos := Nat.two_pow_pos (hi + 1 - lo)
  change ((setFld a hi lo _).run s).fld a hi lo = _
  rw [setFld_fld h hhi hheld, Nat.mod_eq_of_lt (by omega)]

theorem Flag.counter_held : ∀ f : Flag, f.site.2.2.2 + 15 < 32 ∧
    place 65535 (f.site.2.2.2 + 15) f.site.2.2.2 &&& ~~~heldMask f.site.2.2.1 = 0 := by
  intro f
  cases f <;> decide

/-- A flag that is set counts one event more, saturating (R13). -/
theorem setFlag_count (f : Flag) {s : State} (h : s.safe) :
    ((setFlag f).run s).fld f.site.2.2.1 (f.site.2.2.2 + 15) f.site.2.2.2 =
      min (s.fld f.site.2.2.1 (f.site.2.2.2 + 15) f.site.2.2.2 + 1) 65535 := by
  obtain ⟨hhi, hheld⟩ := f.counter_held
  have hwidth : f.site.2.2.2 + 15 + 1 - f.site.2.2.2 = 16 := by omega
  have hflag : ((setFld f.site.1 f.site.2.1 f.site.2.1 1).run s).stored f.site.2.2.1 = s.stored f.site.2.2.1 :=
    setFld_stored_ne s f.apart.symm
  have hcount := addSat_fld (n := 1) (run_safe (setFld f.site.1 f.site.2.1 f.site.2.1 1) s h) hhi (by rw [hwidth]; exact hheld)
  rw [hwidth, State.fld, State.fld, hflag] at hcount
  exact hcount

/-! The bank as a list of shadows, whatever made it. -/

/-- A touched register's prospective word has its shadow in the staged fields (R238). -/
theorem prospective_of_shadow {s : State} {a : Nat} {w : Word} (h : shadowOf s.stg.bank a = some w) :
    s.prospective a &&& stagedMask a = w &&& stagedMask a := by
  unfold State.prospective
  rw [h, masked_and]
  apply BitVec.eq_of_getLsbD_eq
  intro n _
  cases hk : (stagedMask a).getLsbD n <;> simp [hk]

/-- A masked write of all staged fields replaces the shadow, whatever the register's prospective word was. -/
theorem stageMasked_whole_run (a : Nat) (v : Word) (s : State) :
    (stageMasked a (stagedMask a) v).run s = s.withBank (putShadow a (v &&& stagedMask a) s.stg.bank) := by
  have hword : masked (s.prospective a) (stagedMask a &&& stagedMask a) v &&& stagedMask a = v &&& stagedMask a := by
    apply BitVec.eq_of_getLsbD_eq
    intro n _
    cases hk : (stagedMask a).getLsbD n <;> simp [hk]
  rw [stageMasked_run, hword]

/-- Quiet steps do the same under another bank. -/
theorem Quiet.withBank {l : List Nat} {s t : State} (h : Quiet l s t) (bank : List (Nat × Word)) :
    Quiet l (s.withBank bank) (t.withBank bank) := by
  obtain ⟨hunits, hrest⟩ := h
  refine ⟨?_, hrest⟩
  unfold onlyPorts at hunits ⊢
  exact congrArg (fun x : Units => { x with stg := { x.stg with bank := bank } }) hunits

/-! One entry of a settings copy: it is skipped, or its register's shadow becomes its word. -/

/-- Whether RECALL skips an entry: its ADDR holds no staged field, or it is for STG_UNLOCK (R260, R270). -/
def skips (e : Nat × Word) : Bool := decide (stagedMask e.1 = 0 ∨ e.1 = Reg.stgUnlock)

/-- What RECALL does with one entry. -/
def recallEntry (e : Nat × Word) : Prog :=
  if stagedMask e.1 = 0 ∨ e.1 = Reg.stgUnlock then setFlag .recallSkip else stageMasked e.1 (stagedMask e.1) e.2

/-- A bank after one entry. -/
def recallInto (bank : List (Nat × Word)) (e : Nat × Word) : List (Nat × Word) :=
  if skips e then bank else putShadow e.1 (e.2 &&& stagedMask e.1) bank

theorem skips_eq_false {e : Nat × Word} : skips e = false ↔ stagedMask e.1 ≠ 0 ∧ e.1 ≠ Reg.stgUnlock := by
  rw [skips, decide_eq_false_iff_not, not_or]

theorem recallEntries_run (base : Nat) (s : State) :
    (recallEntries base).run s = (Prog.each (s.copyEntries base) recallEntry).run (s.withBank []) := by
  rw [recallEntries, run_look, run_seq]
  rfl

theorem recallEntry_of_skips {e : Nat × Word} (h : skips e = true) : recallEntry e = setFlag .recallSkip :=
  if_pos (of_decide_eq_true h)

theorem recallEntry_of_staged {e : Nat × Word} (h : skips e = false) (s : State) :
    (recallEntry e).run s = s.withBank (recallInto s.stg.bank e) := by
  rw [recallEntry, if_neg (of_decide_eq_false h), stageMasked_whole_run, recallInto, if_neg (by simp [h])]

theorem recallInto_of_skips {e : Nat × Word} (h : skips e = true) (bank : List (Nat × Word)) : recallInto bank e = bank := if_pos h

theorem shadowOf_recallInto_same {e : Nat × Word} (h : skips e = false) (bank : List (Nat × Word)) :
    shadowOf (recallInto bank e) e.1 = some (e.2 &&& stagedMask e.1) := by
  rw [recallInto, if_neg (by simp [h]), shadowOf_putShadow_same]

theorem shadowOf_recallInto_ne {e : Nat × Word} {a : Nat} (h : e.1 ≠ a) (bank : List (Nat × Word)) :
    shadowOf (recallInto bank e) a = shadowOf bank a := by
  unfold recallInto
  split
  · rfl
  · exact shadowOf_putShadow_ne h _ _

/-! The bank that a list of entries makes. -/

theorem shadowOf_recall_isSome (l bank : List (Nat × Word)) (a : Nat) :
    (shadowOf (l.foldl recallInto bank) a).isSome = true ↔
      (shadowOf bank a).isSome = true ∨ ∃ e ∈ l, e.1 = a ∧ skips e = false := by
  induction l generalizing bank with
  | nil => simp
  | cons e t ih =>
    have hstep : (shadowOf (recallInto bank e) a).isSome = true ↔
        (shadowOf bank a).isSome = true ∨ e.1 = a ∧ skips e = false := by
      cases hs : skips e with
      | true => simp [recallInto_of_skips hs]
      | false =>
        by_cases ha : e.1 = a
        · subst ha
          simp [shadowOf_recallInto_same hs]
        · simp [shadowOf_recallInto_ne ha, ha]
    rw [List.foldl_cons, ih, hstep, List.exists_mem_cons_iff, or_assoc]

theorem shadowOf_recall_ne {l : List (Nat × Word)} {a : Nat} (h : ∀ x ∈ l, x.1 ≠ a) (bank : List (Nat × Word)) :
    shadowOf (l.foldl recallInto bank) a = shadowOf bank a := by
  induction l generalizing bank with
  | nil => rfl
  | cons e t ih =>
    rw [List.foldl_cons, ih fun x hx => h x (List.mem_cons_of_mem _ hx), shadowOf_recallInto_ne (h e List.mem_cons_self)]

/-- Of several entries for one register the last one stands (R269). -/
theorem shadowOf_recall_last {l m : List (Nat × Word)} {e : Nat × Word} (he : skips e = false) (hm : ∀ x ∈ m, x.1 ≠ e.1)
    (bank : List (Nat × Word)) : shadowOf ((l ++ e :: m).foldl recallInto bank) e.1 = some (e.2 &&& stagedMask e.1) := by
  rw [List.foldl_append, List.foldl_cons, shadowOf_recall_ne hm, shadowOf_recallInto_same he]

/-! What a list of entries does to the node: the bank, and for skipped entries the flag and its count. -/

/-- The registers that recalling a list of entries changes. -/
def skipRegs (l : List (Nat × Word)) : List Nat := if l.filter skips = [] then [] else [Reg.nvmFlags, Reg.nvmCnt0]

theorem skipRegs_cons_of_skips {e : Nat × Word} (h : skips e = true) (l : List (Nat × Word)) :
    skipRegs (e :: l) = [Reg.nvmFlags, Reg.nvmCnt0] := by
  simp [skipRegs, h]

theorem skipRegs_cons_of_staged {e : Nat × Word} (h : skips e = false) (l : List (Nat × Word)) : skipRegs (e :: l) = skipRegs l := by
  rw [skipRegs, List.filter_cons_of_neg (by simp [h]), skipRegs]

theorem mem_of_mem_skipRegs {l : List (Nat × Word)} {a : Nat} (h : a ∈ skipRegs l) : a ∈ [Reg.nvmFlags, Reg.nvmCnt0] := by
  unfold skipRegs at h
  split at h
  · exact absurd h List.not_mem_nil
  · exact h

theorem recall_quiet (l : List (Nat × Word)) (s : State) :
    Quiet (skipRegs l) (s.withBank (l.foldl recallInto s.stg.bank)) ((Prog.each l recallEntry).run s) := by
  induction l generalizing s with
  | nil => exact Quiet.refl _ s
  | cons e t ih =>
    rw [run_each_cons, List.foldl_cons]
    cases he : skips e with
    | true =>
      rw [recallEntry_of_skips he, recallInto_of_skips he, skipRegs_cons_of_skips he]
      refine ((quiet_setFlag .recallSkip s).withBank _ |>.trans (ih _)).mono fun a ha => ?_
      exact (List.mem_append.mp ha).elim id mem_of_mem_skipRegs
    | false =>
      rw [recallEntry_of_staged he, skipRegs_cons_of_staged he]
      exact ih (s.withBank (recallInto s.stg.bank e))

/-- SKIP_CNT counts the skipped entries, saturating (R270). -/
theorem recall_count (l : List (Nat × Word)) {s : State} (h : s.safe) :
    ((Prog.each l recallEntry).run s).fld Reg.nvmCnt0 31 16 = min (s.fld Reg.nvmCnt0 31 16 + (l.filter skips).length) 65535 := by
  induction l generalizing s with
  | nil =>
    have hlt : s.fld Reg.nvmCnt0 31 16 < 2 ^ 16 := Nat.mod_lt _ (by decide)
    simp only [run_each_nil, List.filter_nil, List.length_nil]
    omega
  | cons e t ih =>
    rw [run_each_cons, ih (run_safe _ s h)]
    cases he : skips e with
    | true =>
      have hcount : ((setFlag .recallSkip).run s).fld Reg.nvmCnt0 31 16 = min (s.fld Reg.nvmCnt0 31 16 + 1) 65535 :=
        setFlag_count .recallSkip h
      rw [recallEntry_of_skips he, hcount, List.filter_cons_of_pos he, List.length_cons]
      omega
    | false =>
      rw [recallEntry_of_staged he, List.filter_cons_of_neg (by simp [he])]
      rfl

/-- RECALL_SKIP stands when it stood before or an entry was skipped (R270). -/
theorem recall_flag (l : List (Nat × Word)) {s : State} (h : s.safe)
    (hset : s.flag Reg.nvmFlags 1 = true ∨ l.filter skips ≠ []) : ((Prog.each l recallEntry).run s).flag Reg.nvmFlags 1 = true := by
  induction l generalizing s with
  | nil => simpa using hset
  | cons e t ih =>
    rw [run_each_cons]
    refine ih (run_safe _ s h) ?_
    cases he : skips e with
    | true =>
      rw [recallEntry_of_skips he]
      exact .inl (setFlag_flag .recallSkip h)
    | false =>
      rw [recallEntry_of_staged he]
      rwa [List.filter_cons_of_neg (by simp [he])] at hset

theorem recallEntries_sameWindows (base : Nat) (s : State) : sameWindows s ((recallEntries base).run s) := by
  rw [recallEntries_run]
  refine keeps_each (I := sameWindows s) (fun e _ t ht => ht.trans ?_) _ (OnlyBank.sameWindows ⟨[], rfl⟩)
  cases he : skips e with
  | true =>
    rw [recallEntry_of_skips he]
    exact setFlag_same _ t
  | false =>
    rw [recallEntry_of_staged he]
    exact OnlyBank.sameWindows ⟨_, rfl⟩

/-! The packet. -/

/-- The bank is what a list of entries makes of an empty one, skipped entries are flagged and counted, and nothing else changed. -/
def Recalled (l : List (Nat × Word)) (s t : State) : Prop :=
  Quiet (skipRegs l) (s.withBank (l.foldl recallInto [])) t ∧
    t.fld Reg.nvmCnt0 31 16 = min (s.fld Reg.nvmCnt0 31 16 + (l.filter skips).length) 65535 ∧
    (l.filter skips ≠ [] → t.flag Reg.nvmFlags 1 = true)

theorem recallEntries_recalled (base : Nat) {s : State} (h : s.safe) :
    Recalled (s.copyEntries base) s ((recallEntries base).run s) := by
  have hempty : (s.withBank []).safe := h
  rw [recallEntries_run]
  exact ⟨recall_quiet _ (s.withBank []), recall_count _ hempty, fun hne => recall_flag _ hempty (.inr hne)⟩

/-- Quiet steps before and after do not matter to what is recalled. -/
theorem Recalled.of_quiet {l : List (Nat × Word)} {s v u t : State} (h : Recalled l v u) (hv : Quiet [] s v) (ht : Quiet [] u t) :
    Recalled l s t := by
  obtain ⟨hquiet, hcount, hflag⟩ := h
  have hbefore : v.stored Reg.nvmCnt0 = s.stored Reg.nvmCnt0 := hv.2.1 _ List.not_mem_nil
  have hafter : ∀ a, t.stored a = u.stored a := fun a => ht.2.1 a List.not_mem_nil
  refine ⟨((hv.withBank _).join hquiet).trans ht |>.mono (by simp), ?_, ?_⟩
  · rw [State.fld, hafter, State.fld, ← hbefore]
    exact hcount
  · rw [State.flag, hafter]
    exact hflag

/-- What recalling leaves alone: of the staging block all but the bank, of the registers all but the flag's and its count's. -/
theorem Recalled.frame {l : List (Nat × Word)} {s t : State} (h : Recalled l s t) :
    t.stg = { s.stg with bank := l.foldl recallInto [] } ∧ regsBut (skipRegs l) s t ∧ sameMem s t ∧
      onlyPorts { s with units := { s.units with stg := t.stg } } t := by
  have hstg := h.1.stg_eq
  refine ⟨hstg, h.1.2.1, h.1.mem, ?_⟩
  rw [hstg]
  exact h.1.1

/-- The registers touched are those of the entries that are not skipped (R236, R269). -/
theorem Recalled.touched_iff {l : List (Nat × Word)} {s t : State} (h : Recalled l s t) (a : Nat) :
    (shadowOf t.stg.bank a).isSome = true ↔ ∃ e ∈ l, e.1 = a ∧ skips e = false := by
  rw [h.frame.1, shadowOf_recall_isSome, or_iff_right (by simp [shadowOf])]

/-- The last entry for a register gives its prospective word's staged fields (R238, R269). -/
theorem Recalled.prospective_last {l m k : List (Nat × Word)} {e : Nat × Word} {s t : State} (h : Recalled l s t)
    (hsplit : l = k ++ e :: m) (he : skips e = false) (hm : ∀ x ∈ m, x.1 ≠ e.1) :
    t.prospective e.1 &&& stagedMask e.1 = e.2 &&& stagedMask e.1 := by
  have hshadow : shadowOf t.stg.bank e.1 = some (e.2 &&& stagedMask e.1) := by
    rw [h.frame.1, hsplit]
    exact shadowOf_recall_last he hm []
  rw [prospective_of_shadow hshadow, BitVec.and_assoc, BitVec.and_self]

theorem opRecall_of_payload {r : Req} (h : r.payload ≠ []) (s : State) : opRecall s r = .now St.badParam [] .skip := if_pos h

theorem opRecall_of_no_copy {r : Req} {s : State} (h : r.payload = []) (hc : s.newestCopy = none) :
    opRecall s r = .now St.nvmFail [] .skip := by
  rw [opRecall, if_neg (not_not.mpr h), hc]
  rfl

theorem opRecall_of_copy {r : Req} {s : State} {c : Nat} (h : r.payload = []) (hc : s.newestCopy = some c) :
    opRecall s r = .now St.ok (wordBytes (s.copySeq c)) (recallEntries c) := by
  rw [opRecall, if_neg (not_not.mpr h), hc]

/-- A RECALL that answers a status and does nothing else. -/
theorem recall_just {r : Req} {s : State} {st : Nat} (h : Fresh 0x15 r s) (hop : opRecall s r = .now st [] .skip) :
    Completes (.recall r) s fun t => Answered 0x15 r t st [] ∧ t.stg = s.stg ∧ StageFrame s t := by
  obtain ⟨t, ht, hans, hq⟩ := serve_just h hop
  rw [replyRegs_nil h (by decide)] at hq
  exact ⟨t, ht, hans, hq.stg_eq, hq.stageFrame⟩

/-- A RECALL of a valid copy answers its SEQ, and its entries stand in the bank. -/
theorem recall_loads {r : Req} {s : State} {c : Nat} (h : Fresh 0x15 r s) (hsafe : s.safe) (hp : r.payload = [])
    (hc : s.newestCopy = some c) :
    Completes (.recall r) s fun t => Answered 0x15 r t 0x00 (wordBytes (s.copySeq c)) ∧ Recalled (s.copyEntries c) s t := by
  obtain ⟨t, ht, hans, hq⟩ := serve_answers h (opRecall_of_copy hp hc) (recallEntries_sameWindows c _)
  rw [replyRegs_nil h (by decide)] at hq
  exact ⟨t, ht, hans, (recallEntries_recalled c (s := s.touched r) (run_safe _ s hsafe)).of_quiet (quiet_touched s r) hq⟩

/-- Settles O11: a payload or a missing copy ends in a status alone, and otherwise the bank is the list of shadows that the entries
of the newest copy make one after another, of which the last for each register stands. -/
theorem recallLoadsBank : Obligations.RecallLoadsBank := by
  unfold Obligations.RecallLoadsBank
  intro r s hfresh hsafe staged
  by_cases hp : r.payload = []
  · cases hc : s.newestCopy with
    | none =>
      obtain ⟨t, ht, hans, hstg, hregs, hmem, hports⟩ := recall_just hfresh (opRecall_of_no_copy hp hc)
      exact ⟨t, ht, fun hn => absurd hp hn, fun _ _ => ⟨hans, hstg, hregs⟩, nofun, hmem, hports⟩
    | some c =>
      obtain ⟨t, ht, hans, hrec⟩ := recall_loads hfresh hsafe hp hc
      obtain ⟨hstg, hregs, hmem, hports⟩ := hrec.frame
      have htouched : ∀ a, (shadowOf t.stg.bank a).isSome = true ↔ ∃ e ∈ s.copyEntries c, e.1 = a ∧ staged e := fun a => by
        simpa only [skips_eq_false] using hrec.touched_iff a
      have hlast : ∀ l e m, s.copyEntries c = l ++ e :: m → staged e → (∀ x ∈ m, x.1 ≠ e.1) →
          t.prospective e.1 &&& stagedMask e.1 = e.2 &&& stagedMask e.1 :=
        fun _ _ _ hsplit he hm => hrec.prospective_last hsplit (skips_eq_false.mpr he) hm
      refine ⟨t, ht, fun hn => absurd hp hn, nofun, ?_, hmem, hports⟩
      rintro - _ ⟨⟩
      exact ⟨hans, by rw [hstg], by rw [hstg], htouched, hlast, hrec.2.1, hrec.2.2, hregs⟩
  · obtain ⟨t, ht, hans, hstg, hregs, hmem, hports⟩ := recall_just hfresh (opRecall_of_payload hp s)
    exact ⟨t, ht, fun _ => ⟨hans, hstg, hregs⟩, fun hn => absurd hn hp, fun hn => absurd hn hp, hmem, hports⟩

end Sys2Proof.Machine
end
